-- ==== Sys2Proof/Word.lean ====
section
/-! DEFINITION. Word.lean: the fixed-width values of the FH716 and the fixed-size table that its register
groups are held in.

The part has no memory map and no general registers. What the manual gives a width is a bit vector of that
width; what it gives as a duration in milliseconds is a `Nat`; what it numbers is a `Fin`. -/
namespace Sys2Proof

/-- One byte of a frame, a symbol's value, a SEQ or a KIND. -/
abbrev Byte := BitVec 8

/-- A two-byte count, label or event number, 0 to 65535. -/
abbrev Half := BitVec 16

/-- A reading of the 32-bit millisecond clock (R175), or a 32-bit counter. -/
abbrev Word := BitVec 32

/-- One of the seven symbol sources: 0 to 5 are S0 to S5, 6 is SC (Terms: "Source"). -/
abbrev SourceId := Fin 7

/-- One of the six serial sources S0 to S5. -/
abbrev SerialId := Fin 6

/-- One of the eight contacts, contact 0 to contact 7 (R74). -/
abbrev ContactId := Fin 8

/-- One of the 32 pattern entries (R1). -/
abbrev PatternId := Fin 32

/-- One of the 24 trackers (R23). -/
abbrev TrackerId := Fin 24

/-- One of the four wake outputs W0 to W3 (R122). -/
abbrev OutputId := Fin 4

/-- A timer: `none` is stopped (a stopped timer keeps no remaining time), `some n` is running with `n` ms to
go. `some 0` is a running timer that has reached 0 and whose expiry has not been taken yet. -/
abbrev Timer := Option Nat

/-- Source SC, numbered 6. -/
def sourceSC : SourceId := 6

/-- A serial source's number among the seven sources. -/
def sourceOf (i : SerialId) : SourceId := ⟨i.val, Nat.lt_trans i.isLt (by decide)⟩

/-- The serial source that a source number names; none for SC. -/
def serialOf? (i : SourceId) : Option SerialId :=
  if h : i.val < 6 then some ⟨i.val, h⟩ else none

/-- A table of exactly `n` items: the list, and once and for all the proof that it has `n` items. -/
structure Table (α : Type) (n : Nat) where
  rows : List α
  size : rows.length = n
  deriving DecidableEq, Repr

/-- The table whose item `i` is `f i`. -/
def Table.tabulate {α : Type} {n : Nat} (f : Fin n → α) : Table α n :=
  ⟨(List.finRange n).map f, by simp⟩

/-- The table whose items are all `a`. -/
def Table.fill {α : Type} (n : Nat) (a : α) : Table α n :=
  ⟨List.replicate n a, by simp⟩

/-- Item `i`. -/
def Table.get {α : Type} {n : Nat} (t : Table α n) (i : Fin n) : α :=
  t.rows[i.val]'(by rw [t.size]; exact i.isLt)

/-- The table with item `i` replaced. -/
def Table.set {α : Type} {n : Nat} (t : Table α n) (i : Fin n) (a : α) : Table α n :=
  ⟨t.rows.set i.val a, by simp [t.size]⟩

/-- The table with `f` applied to item `i`. -/
def Table.modify {α : Type} {n : Nat} (t : Table α n) (i : Fin n) (f : α → α) : Table α n :=
  t.set i (f (t.get i))

/-- The table with `f` applied to every item. -/
def Table.map {α β : Type} {n : Nat} (f : α → β) (t : Table α n) : Table β n :=
  ⟨t.rows.map f, by simp [t.size]⟩

end Sys2Proof
end

