-- ==== Sys2Proof/Syntax.lean ====
section
/-! DEFINITION. Syntax.lean: the commands of the FH716, one constructor per row of spec/opcode_table.json.

The part has no instructions. A row of the table is one whole, indivisible step of it (95_what_each_step_holds.md):
a request from the host, a byte or a level on one of its lines, or the expiry of one of its timers.

The 25 request rows carry what the frame of the request carries besides its KIND: the SEQ byte and the PAYLOAD
bytes, in the order they are sent (R143). Every value of every field can so be written, the wrong lengths and the
values out of range among them, which the part answers with BAD_LENGTH and BAD_VALUE. -/
namespace Sys2Proof

/-- The level of a line or a pin. -/
inductive Level
  | low
  | high
  deriving DecidableEq, Repr

/-- The commands. Each comment names the row. -/
inductive Instr
  /-- IDENTIFY (R177). -/
  | identify (seq : Byte) (payload : List Byte)
  /-- READ_STATUS (R178). -/
  | readStatus (seq : Byte) (payload : List Byte)
  /-- OPEN_SESSION (R159). -/
  | openSession (seq : Byte) (payload : List Byte)
  /-- CLOSE_SESSION (R160). -/
  | closeSession (seq : Byte) (payload : List Byte)
  /-- HOLD_NOTICES (R165). -/
  | holdNotices (seq : Byte) (payload : List Byte)
  /-- RELEASE_NOTICES (R166). -/
  | releaseNotices (seq : Byte) (payload : List Byte)
  /-- ACK_EVENTS (R116). -/
  | ackEvents (seq : Byte) (payload : List Byte)
  /-- SET_CLOCK (R176). -/
  | setClock (seq : Byte) (payload : List Byte)
  /-- RESTART (R179). -/
  | restart (seq : Byte) (payload : List Byte)
  /-- SET_SOURCE (R63). -/
  | setSource (seq : Byte) (payload : List Byte)
  /-- READ_SOURCE (R72). -/
  | readSource (seq : Byte) (payload : List Byte)
  /-- INJECT (R91). -/
  | inject (seq : Byte) (payload : List Byte)
  /-- CANCEL_INJECT (R97). -/
  | cancelInject (seq : Byte) (payload : List Byte)
  /-- SET_CONTACT (R84). -/
  | setContact (seq : Byte) (payload : List Byte)
  /-- READ_CONTACTS (R86). -/
  | readContacts (seq : Byte) (payload : List Byte)
  /-- DEFINE_PATTERN (R18). -/
  | definePattern (seq : Byte) (payload : List Byte)
  /-- ARM_PATTERN (R19). -/
  | armPattern (seq : Byte) (payload : List Byte)
  /-- STOP_PATTERN (R20). -/
  | stopPattern (seq : Byte) (payload : List Byte)
  /-- ERASE_PATTERN (R21). -/
  | erasePattern (seq : Byte) (payload : List Byte)
  /-- READ_PATTERN (R22). -/
  | readPattern (seq : Byte) (payload : List Byte)
  /-- READ_TRACKERS (R51). -/
  | readTrackers (seq : Byte) (payload : List Byte)
  /-- FLUSH_TRACKERS (R52). -/
  | flushTrackers (seq : Byte) (payload : List Byte)
  /-- SET_WAKE (R128). -/
  | setWake (seq : Byte) (payload : List Byte)
  /-- CLEAR_WAKE (R129). -/
  | clearWake (seq : Byte) (payload : List Byte)
  /-- READ_WAKE (R131). -/
  | readWake (seq : Byte) (payload : List Byte)
  /-- UNKNOWN_REQUEST (R151): a good frame of any KIND that is no request kind. -/
  | unknownRequest (seq kind : Byte) (payload : List Byte)
  /-- FRAME_SET_ASIDE (R151): a good frame that meets a full reply queue. -/
  | frameSetAside (seq kind : Byte) (payload : List Byte)
  /-- LINK_BYTE (R145): a good byte from HRX. -/
  | linkByte (value : Byte)
  /-- LINK_FRAMING_FAULT (R142): a byte on HRX whose stop bit reads low. -/
  | linkFramingFault
  /-- INTER_BYTE_TIMEOUT (R147). -/
  | interByteTimeout
  /-- LINK_RESET (R150): expiry of the break timer. -/
  | linkReset
  /-- TRANSMIT_FRAME_END (R154). -/
  | transmitFrameEnd
  /-- RETRANSMIT_EXPIRY (R168). -/
  | retransmitExpiry
  /-- SERIAL_CHARACTER (R56): the bits as the receiver read them. With 7 data bits the low seven bits of `data`
  are the data bits; `parityBit` is the parity bit's level where there is one. -/
  | serialCharacter (source : SerialId) (data : Byte) (parityBit stopBit : Level)
  /-- SETTLE_EXPIRY (R66). -/
  | settleExpiry (source : SourceId)
  /-- CONTACT_PIN_CHANGE (R76): the level the pin changes to. -/
  | contactPinChange (contact : ContactId) (level : Level)
  /-- DEBOUNCE_EXPIRY (R76). -/
  | debounceExpiry (contact : ContactId)
  /-- INJECT_DELIVERY (R93): expiry of the source's spacing timer. -/
  | injectDelivery (source : SourceId)
  /-- LATCH_REQUEST (R124): a completion's latch request taken at one output. -/
  | latchRequest (output : OutputId)
  /-- PULSE_EXPIRY (R126). -/
  | pulseExpiry (output : OutputId)
  /-- GAP_DEADLINE_EXPIRY (R44). -/
  | gapDeadlineExpiry (tracker : TrackerId)
  /-- SPAN_DEADLINE_EXPIRY (R45). -/
  | spanDeadlineExpiry (tracker : TrackerId)
  /-- HOLDOFF_EXPIRY (R26): the holdoff entry of one pattern index and one source. -/
  | holdoffExpiry (pattern : PatternId) (source : SourceId)
  /-- HOSTPWR_CHANGE (R136): the level the input changes to. -/
  | hostpwrChange (level : Level)
  /-- QUALIFIED_POWER_CHANGE (R137): expiry of the qualification timer. -/
  | qualifiedPowerChange
  /-- CLOCK_TICK (R175): the end of one millisecond of elapsed time. -/
  | clockTick
  /-- RESET_ASSERT (R182): the fall of RESET. -/
  | resetAssert
  /-- POWER_ON_SEQUENCE (R182): the rise of RESET or of the standby supply, with the levels found at the straps. -/
  | powerOnSequence (lr1 lr0 : Level)
  /-- HRX_LEVEL_CHANGE (R142, R149): the level HRX changes to; after a fall, whether the line is still low at the
  middle of that bit time. -/
  | hrxLevelChange (level : Level) (lowAtMiddle : Bool)
  /-- SOURCE_LINE_LEVEL_CHANGE (R55): the level the line changes to; after a fall, whether the line is still low at
  the middle of that bit time. -/
  | sourceLineLevelChange (source : SerialId) (level : Level) (lowAtMiddle : Bool)
  deriving DecidableEq, Repr

end Sys2Proof
end

