-- ==== Sys2Proof/Decode.lean ====
section
/-! DEFINITION. Decode.lean: the words of the opcode table.

The part decodes no instruction words: no row of spec/opcode_table.json gives bits ("fields" is empty in all 50), so
no word spells a command. What the part does decode, the frames of the host link, is its own behaviour and stands in
Machine/Frames.lean, Machine/Operands.lean and Machine/Link.lean. -/
namespace Sys2Proof

/-- The command that a word spells by the table's bits. The table gives bits to no row. -/
def decodeTableWord (_nbits _w : Nat) : Option Instr := none

end Sys2Proof
end

