-- ==== Sys2Proof/Config.lean ====
section
/-! DEFINITION. Config.lean: what the part fixes in silicon, and the one free value of the model. -/
namespace Sys2Proof.Config

/-- The SYNC byte that begins a frame (R143). -/
def syncByte : Byte := 0xA7

/-- The KIND of a notice (R143). -/
def noticeKind : Byte := 0x80

/-- The event queue's room for ordinary records; one further slot is the LOST record's alone (R101). -/
def ordinarySlots : Nat := 63

/-- Slots of the reply queue (R153). -/
def replySlots : Nat := 4

/-- Entries of one injection queue (R88). -/
def injectionSlots : Nat := 32

/-- The inter-byte time in ms (R147). -/
def interByteTime : Nat := 20

/-- The break time in ms (R149). -/
def breakTime : Nat := 5

/-- The host-power qualification time in ms (R136). -/
def qualificationTime : Nat := 10

/-- The greatest round count; the expiry that would pass it loses the session (R168, R169). -/
def lastRound : Nat := 8

/-- The identity of the part as IDENTIFY reports it (R177, section 11.2): vendor code $03A1, part code $0716, the
revision letter B, and the nine capacities. -/
def identity : List Byte :=
  [0x03, 0xA1, 0x07, 0x16, 0x42, 32, 12, 24, 64, 7, 8, 4, 32, 8]

/-- FREE VALUE (assumption 4). R154: when one event gives an idle transmitter both a notice and a reply, "either may be
taken first". The value at `n` says whether the notice is the one begun first at the `n`-th such event. It has no body:
nothing can be proved of it. -/
opaque noticeFirst : Nat → Bool

end Sys2Proof.Config
end

