-- ==== Sys2Proof/Machine/State.lean ====
section
/-! DEFINITION. Machine/State.lean: every piece of state the manual gives the FH716, block by block, the reasons a
command can be refused, and the state right after power-on reset.

Where the manual says that one item is present only together with another, the type says so once: an EMPTY pattern
entry is `none`, so it has no definition and no hit count; a settle timer exists only in SETTLING; the session's
window, timer, round count, resend list and duplicate memory exist only while a session is open. -/
namespace Sys2Proof.Machine

/-! ### Chapter 1: the pattern table -/

/-- A step, or a skip filter: a value and a mask (R3). -/
structure PatternStep where
  value : Byte
  mask : Byte
  deriving DecidableEq, Repr

/-- The mismatch policy with its holdoff time in ms (R8). -/
inductive Policy
  | restart
  | holdoff (time : Nat)
  deriving DecidableEq, Repr

/-- The power condition (R9). -/
inductive Condition
  | always
  | hostOn
  | hostOff
  deriving DecidableEq, Repr

/-- A definition, with every field of section 1.2. Bit k of `sources` stands for source k, bit k of `route` for Wk. -/
structure Definition where
  label : Half
  sources : BitVec 7
  steps : List PatternStep
  skip : Option PatternStep
  gapLimit : Nat
  spanLimit : Option Nat
  policy : Policy
  condition : Condition
  consume : Bool
  oneShot : Bool
  report : Bool
  capture : Bool
  route : BitVec 4
  deriving DecidableEq, Repr

/-- The three states of an entry that holds a definition (R15). -/
inductive Phase
  | stopped
  | armed
  | spent
  deriving DecidableEq, Repr

/-- An entry that is not EMPTY (R1, R14). -/
structure Entry where
  phase : Phase
  definition : Definition
  hits : Half
  deriving DecidableEq, Repr

/-! ### Chapter 2: the matching engine -/

/-- A tracker in use (R23). `next` is the step it waits for, `gap` and `span` the ms left of its deadlines. -/
structure Tracker where
  pattern : PatternId
  source : SourceId
  next : Nat
  gap : Nat
  span : Option Nat
  start : Word
  captured : Option (List Byte)
  deriving DecidableEq, Repr

/-- The kinds of error symbol. -/
inductive ErrorKind
  | framing
  | parity
  | lineBreak
  deriving DecidableEq, Repr

/-- A symbol: a value or an error symbol (R28). An injection entry holds the same (R88). -/
inductive Symbol
  | value (v : Byte)
  | error (kind : ErrorKind)
  deriving DecidableEq, Repr

/-! ### Chapters 3 and 4: sources and contacts -/

inductive SourceMode
  | live
  | test
  deriving DecidableEq, Repr

/-- The states of a source (R61). The settle timer runs in SETTLING alone. -/
inductive SourceState
  | off
  | settling (remaining : Nat)
  | listening
  | test
  deriving DecidableEq, Repr

/-- The configuration fields that all seven sources have (R54, R81). -/
structure SourceConfig where
  enable : Bool
  mode : SourceMode
  settleTime : Nat
  reporting : Bool
  spacing : Nat
  deriving DecidableEq, Repr

/-- What every source holds: configuration, state and received counter (R54, R59, R61). -/
structure Source where
  config : SourceConfig
  state : SourceState
  received : Word
  deriving DecidableEq, Repr

inductive Rate
  | r1200
  | r2400
  | r4800
  | r9600
  | r19200
  | r38400
  | r57600
  | r115200
  deriving DecidableEq, Repr

inductive DataBits
  | seven
  | eight
  deriving DecidableEq, Repr

inductive Parity
  | none
  | even
  | odd
  deriving DecidableEq, Repr

inductive Domain
  | standby
  | host
  deriving DecidableEq, Repr

/-- The configuration fields that only serial sources have (R54). -/
structure LineConfig where
  rate : Rate
  dataBits : DataBits
  parity : Parity
  domain : Domain
  deriving DecidableEq, Repr

/-- The receiver of a serial source (R55). It is stopped in OFF and in TEST. A character being received carries
whether it was begun in SETTLING and is therefore discarded when it ends. -/
inductive Receiver
  | stopped
  | waiting
  | hunting
  | receiving (discard : Bool)
  deriving DecidableEq, Repr

/-- What a serial source holds beyond `Source` (R54, R55, R59, R60). -/
structure Serial where
  line : LineConfig
  errors : Half
  errorFlag : Bool
  receiver : Receiver
  deriving DecidableEq, Repr

/-- The polarity of a contact (R75) or of a wake output (R123). -/
inductive Polarity
  | activeLow
  | activeHigh
  deriving DecidableEq, Repr

/-- The report selection of a contact (R78). -/
inductive Selection
  | none
  | press
  | release
  | both
  deriving DecidableEq, Repr

/-- A contact's configuration; `debounce` is in ms (R74). -/
structure ContactConfig where
  polarity : Polarity
  debounce : Nat
  selection : Selection
  deriving DecidableEq, Repr

/-- A contact channel (R74). The raw pin level is in `Pins`. -/
structure Contact where
  config : ContactConfig
  stable : Level
  timer : Timer
  deriving DecidableEq, Repr

/-! ### Chapter 5: test injection -/

/-- One source's injection queue, head first, with its counts and its spacing timer (R88). -/
structure Injector where
  queue : List Symbol
  delivered : Half
  cancelled : Half
  timer : Timer
  deriving DecidableEq, Repr

/-! ### Chapters 6 and 7: the event queue, the wake unit and the host-power monitor -/

inductive StartCause
  | powerOn
  | restart
  deriving DecidableEq, Repr

/-- The new state a SOURCE_STATE record names, with its one cause: (LISTENING, SETTLED) or (OFF, HOST_POWER), the two
pairs that occur (R68). -/
inductive SourceChange
  | listeningSettled
  | offHostPower
  deriving DecidableEq, Repr

inductive RunEnd
  | emptied
  | cancelled
  | sourceOff
  deriving DecidableEq, Repr

/-- The two qualified host-power states. -/
inductive HostPower
  | absent
  | present
  deriving DecidableEq, Repr

/-- A record's kind with the fields of its kind (R103). -/
inductive RecordBody
  | started (cause : StartCause)
  | hit (pattern : PatternId) (label : Half) (source : SourceId) (stepCount : Nat) (start : Word)
      (capture : Option (List Byte))
  | lineError (source : SerialId) (kind : ErrorKind)
  | sourceState (source : SourceId) (change : SourceChange)
  | trackerShort (source : SourceId) (pattern : PatternId)
  | injectDone (source : SourceId) (delivered cancelled : Half) (reason : RunEnd)
  | power (state : HostPower)
  | lost (count : Half)
  deriving DecidableEq, Repr

inductive Mark
  | waiting
  | sent
  deriving DecidableEq, Repr

/-- A record in the queue (R102). -/
structure Record where
  number : Half
  timestamp : Word
  mark : Mark
  body : RecordBody
  deriving DecidableEq, Repr

/-- The event queue, head first (R101). -/
structure EventQueue where
  records : List Record
  nextNumber : Half
  lost : Half
  deriving DecidableEq, Repr

inductive WakeMode
  | level
  | pulse
  deriving DecidableEq, Repr

inductive Gate
  | any
  | hostOffOnly
  deriving DecidableEq, Repr

/-- A wake output's configuration; `width` is in ms (R122). -/
structure WakeConfig where
  enable : Bool
  mode : WakeMode
  polarity : Polarity
  width : Byte
  gate : Gate
  autoClear : Bool
  deriving DecidableEq, Repr

/-- A wake output (R122). Whether it is asserted, and its pin's level, follow from these fields (Flags.lean). -/
structure Wake where
  config : WakeConfig
  latch : Bool
  pulse : Timer
  deriving DecidableEq, Repr

/-- The host-power monitor (R135). -/
structure PowerMonitor where
  qualified : HostPower
  timer : Timer
  deriving DecidableEq, Repr

/-! ### Chapter 8: the host link -/

/-- The four line rates (R141). -/
inductive LinkRate
  | r9600
  | r38400
  | r115200
  | r460800
  deriving DecidableEq, Repr

/-- The byte receiver on HRX (R142). -/
inductive ByteReceiver
  | waiting
  | hunting
  | taking
  deriving DecidableEq, Repr

/-- The frame receiver (R145). RECEIVING holds LEN once it has come, the bytes received from SEQ onward, and the
inter-byte timer. -/
inductive FrameReceiver
  | hunting
  | receiving (len : Option Byte) (got : List Byte) (timer : Nat)
  deriving DecidableEq, Repr

/-- A reply in the reply queue: the frame content, and the restart mark (R152, R179). -/
structure Reply where
  seq : Byte
  kind : Byte
  payload : List Byte
  restart : Bool
  deriving DecidableEq, Repr

/-- The transmitter: idle, or sending the frame with these bytes (R154). The reply being sent is the head of the reply
queue (R153). -/
inductive Transmitter
  | idle
  | sendingReply (frame : List Byte)
  | sendingNotice (frame : List Byte)
  deriving DecidableEq, Repr

/-- The host link's own state. -/
structure Link where
  rate : LinkRate
  byteReceiver : ByteReceiver
  receiver : FrameReceiver
  breakTimer : Timer
  replies : List Reply
  transmitter : Transmitter
  errors : Half
  deriving DecidableEq, Repr

/-! ### Chapter 9: sessions -/

inductive Flow
  | flowing
  | held
  deriving DecidableEq, Repr

inductive CloseReason
  | none
  | requested
  | reopened
  | noticeTimeout
  | linkReset
  | hostPower
  deriving DecidableEq, Repr

/-- What the session block holds while a session is OPEN (R157). `saved` is the saved reply; its SEQ and KIND are the
last request's (R171). -/
structure OpenSession where
  window : Nat
  timeout : Nat
  flow : Flow
  timer : Timer
  round : Nat
  resend : List Half
  saved : Option Reply
  deriving DecidableEq, Repr

/-- The session block: CLOSED is `opened = none` (R157). -/
structure SessionBlock where
  number : Byte
  opened : Option OpenSession
  lastClose : CloseReason
  deriving DecidableEq, Repr

/-! ### Input pins -/

/-- The level at each input pin (Signal description). RESET is `State.resetHeld`. -/
structure Pins where
  contacts : Table Level 8
  lines : Table Level 6
  hostpwr : Level
  hrx : Level
  lr1 : Level
  lr0 : Level
  deriving DecidableEq, Repr

/-! ### The whole part -/

/-- The state of the FH716. -/
structure State where
  /-- The 32 pattern entries; EMPTY is `none` (R1). -/
  patterns : Table (Option Entry) 32
  /-- The tracker pool; free is `none` (R23). -/
  trackers : Table (Option Tracker) 24
  /-- The holdoff table, by pattern index and then by source; clear is `none` (R25). -/
  holdoffs : Table (Table Timer 7) 32
  /-- The short-report flags (R37). -/
  shortFlags : Table Bool 7
  /-- Latch requests that completions have sent and the wake unit has not yet taken, oldest first (R40, R124). -/
  latchRequests : List OutputId
  /-- The seven sources, S0 to S5 then SC (R54, R81). -/
  sources : Table Source 7
  /-- What only the serial sources hold (R54). -/
  serials : Table Serial 6
  /-- The eight contact channels (R74). -/
  contacts : Table Contact 8
  /-- The seven injection queues (R88). -/
  injectors : Table Injector 7
  /-- The event queue (R101). -/
  queue : EventQueue
  /-- The four wake outputs (R122). -/
  wakes : Table Wake 4
  /-- The host-power monitor (R135). -/
  power : PowerMonitor
  /-- The host link (R141 to R156). -/
  link : Link
  /-- The session block (R157). -/
  session : SessionBlock
  /-- The millisecond clock (R175). -/
  clock : Word
  /-- RESET is low: the part is held in reset (R182). -/
  resetHeld : Bool
  /-- The levels at the input pins. -/
  pins : Pins
  /-- The MODEL's own field: how many choices that the manual leaves open have been made (Config.noticeFirst). -/
  choices : Nat
  /-- The commands that are waiting, first in, first out. -/
  pending : List Instr
  deriving DecidableEq, Repr

/-- No command faults: the manual gives the FH716 no event that stops it. A refused request is answered with a status
code and a damaged frame is discarded; both are next states. -/
inductive Fault
  deriving DecidableEq, Repr

/-- Why a command has no meaning. -/
inductive Refusal
  /-- A command that no meaning is written for. Raised by no arm of `exec` at present. Safe: it stops. -/
  | notModelled (mnemonic : String)
  /-- Raised by the 27 commands that stand for a good frame, when the payload is longer than the 248 bytes a frame can
  carry (R143): there is no such frame. Safe: it stops, and no sender can send it. -/
  | notAFrame
  deriving DecidableEq, Repr

/-! ### Reset -/

/-- A serial source's or SC's common state after POR and RESTART (R54, R81). -/
def resetSource : Source :=
  { config := { enable := false, mode := .live, settleTime := 50, reporting := true, spacing := 100 }
    state := .off
    received := 0 }

/-- The rest of a serial source after POR and RESTART (R54). -/
def resetSerial : Serial :=
  { line := { rate := .r9600, dataBits := .eight, parity := .none, domain := .standby }
    errors := 0
    errorFlag := false
    receiver := .stopped }

/-- A contact channel after POR and RESTART, its pin read once (R74). -/
def resetContact (pin : Level) : Contact :=
  { config := { polarity := .activeLow, debounce := 20, selection := .press }
    stable := pin
    timer := none }

/-- An injection queue after POR and RESTART (R88, R100). -/
def resetInjector : Injector := { queue := [], delivered := 0, cancelled := 0, timer := none }

/-- A wake output after POR and RESTART (R122). -/
def resetWake : Wake :=
  { config := { enable := false, mode := .level, polarity := .activeHigh, width := 10, gate := .any, autoClear := false }
    latch := false
    pulse := none }

/-- The session block after POR and RESTART (R157). -/
def resetSession : SessionBlock := { number := 0, opened := none, lastClose := .none }

/-- DESIGN CHOICE (assumption 1): the levels at the input pins when the model starts. The lines rest high (R55, R141), the
contacts rest inactive under the reset polarity, the host is powered down and both straps are LOW. -/
def restingPins : Pins :=
  { contacts := Table.fill 8 .high
    lines := Table.fill 6 .high
    hostpwr := .low
    hrx := .high
    lr1 := .low
    lr0 := .low }

/-- The machine right after power-on reset: the end of the power-on sequence (R182). The STARTED (POWER_ON) record is
in the queue as number 0 with timestamp 0 (R119), and HOSTPWR LOW agrees with ABSENT (R135). -/
def State.reset : State :=
  { patterns := Table.fill 32 none
    trackers := Table.fill 24 none
    holdoffs := Table.fill 32 (Table.fill 7 none)
    shortFlags := Table.fill 7 false
    latchRequests := []
    sources := Table.fill 7 resetSource
    serials := Table.fill 6 resetSerial
    contacts := Table.fill 8 (resetContact .high)
    injectors := Table.fill 7 resetInjector
    queue :=
      { records := [{ number := 0, timestamp := 0, mark := .waiting, body := .started .powerOn }]
        nextNumber := 1
        lost := 0 }
    wakes := Table.fill 4 resetWake
    power := { qualified := .absent, timer := none }
    link :=
      { rate := .r9600
        byteReceiver := .waiting
        receiver := .hunting
        breakTimer := none
        replies := []
        transmitter := .idle
        errors := 0 }
    session := resetSession
    clock := 0
    resetHeld := false
    pins := restingPins
    choices := 0
    pending := [] }

end Sys2Proof.Machine
end

