-- ==== Sys2Proof/Machine/Flags.lean ====
section
/-! DEFINITION. Machine/Flags.lean: the views of the state that the manual defines from it: what is effective, open,
asserted, active or held, the counts of the event queue, and the saturating and wrapping counts. -/
namespace Sys2Proof.Machine

/-! ### Counts -/

/-- A count that saturates at its greatest value raised by one (R14, R59, R88, R107, R148). -/
def countUp (c : Half) : Half := if c = 65535 then c else c + 1

/-- A saturating count raised by `n` (R88, R97). -/
def countUpBy (c : Half) (n : Nat) : Half :=
  if c.toNat + n < 65535 then BitVec.ofNat 16 (c.toNat + n) else 65535

/-- A running timer after one more millisecond. A stopped timer stays stopped; one at 0 awaits its expiry (assumption 2). -/
def tickTimer (t : Timer) : Timer := t.map (· - 1)

/-- Whether a timer's expiry can be taken: it runs and its remaining time has reached 0 (assumption 2). -/
def timerDue (t : Timer) : Bool := decide (t = some 0)

/-! ### Host power and levels -/

/-- The qualified state that a HOSTPWR level stands for (R136). -/
def powerOf (l : Level) : HostPower :=
  match l with
  | .high => .present
  | .low => .absent

/-- The link is held while qualified host power is ABSENT (R156). -/
def State.linkHeld (s : State) : Bool := decide (s.power.qualified = .absent)

/-- Whether a power condition holds (R9). -/
def Condition.holds (c : Condition) (p : HostPower) : Bool :=
  match c, p with
  | .always, _ => true
  | .hostOn, .present => true
  | .hostOn, .absent => false
  | .hostOff, .present => false
  | .hostOff, .absent => true

/-- Whether the pin level counts as active under a polarity (R75, R123). -/
def Polarity.active (p : Polarity) (l : Level) : Bool :=
  match p, l with
  | .activeLow, .low => true
  | .activeLow, .high => false
  | .activeHigh, .low => false
  | .activeHigh, .high => true

/-- The level an output drives when asserted or deasserted (R123). -/
def Polarity.drive (p : Polarity) (asserted : Bool) : Level :=
  match p, asserted with
  | .activeHigh, true => .high
  | .activeHigh, false => .low
  | .activeLow, true => .low
  | .activeLow, false => .high

/-! ### Patterns and trackers -/

/-- The step test of R3, which a skip filter uses too. -/
def PatternStep.selects (st : PatternStep) (v : Byte) : Bool := decide ((v ^^^ st.value) &&& st.mask = 0)

/-- Whether a symbol is passed over by a pattern (R5): error symbols never are. -/
def Definition.passesOver (d : Definition) (sym : Symbol) : Bool :=
  match d.skip, sym with
  | some f, .value v => f.selects v
  | some _, .error _ => false
  | none, _ => false

/-- Whether a symbol matches step `k` (R3): error symbols match no step. -/
def Definition.matchesStep (d : Definition) (k : Nat) (sym : Symbol) : Bool :=
  match d.steps[k]?, sym with
  | some st, .value v => st.selects v
  | some _, .error _ => false
  | none, _ => false

/-- Whether a source is in a pattern's source set (R6). -/
def Definition.lists (d : Definition) (src : SourceId) : Bool := d.sources.getLsbD src.val

/-- The definition of a pattern that takes part in an arrival at `src`: ARMED, effective and listing it (R28). -/
def State.participant (s : State) (src : SourceId) (p : PatternId) : Option Definition :=
  match s.patterns.get p with
  | some e =>
    if e.phase = .armed ∧ e.definition.condition.holds s.power.qualified = true ∧ e.definition.lists src = true then
      some e.definition
    else none
  | none => none

/-- Whether an entry is effective (R9, R22). -/
def State.entryEffective (s : State) (e : Entry) : Bool := e.definition.condition.holds s.power.qualified

/-- The number of trackers in use. -/
def trackersInUse (ts : Table (Option Tracker) 24) : Nat := ts.rows.countP Option.isSome

/-- Whether pattern `p` has a tracker on `src`. -/
def hasTracker (ts : Table (Option Tracker) 24) (p : PatternId) (src : SourceId) : Bool :=
  ts.rows.any fun slot =>
    match slot with
    | some t => decide (t.pattern = p ∧ t.source = src)
    | none => false

/-- The free tracker with the lowest id (R24). -/
def freeTracker (ts : Table (Option Tracker) 24) : Option TrackerId :=
  (List.finRange 24).find? fun i => (ts.get i).isNone

/-- The outputs of a wake route, in output order (R40). -/
def routeOutputs (route : BitVec 4) : List OutputId := (List.finRange 4).filter fun w => route.getLsbD w.val

/-! ### Sources -/

/-- Whether a serial source is OFF with enable yes, waiting for host power (R61, R72). -/
def Source.waitsForPower (c : Source) : Bool := c.config.enable && decide (c.state = .off)

/-- Whether a character's parity bit agrees with its data (R56, case 3): the ones of the data bits and the parity bit
together are even under EVEN, odd under ODD. -/
def parityAgrees (p : Parity) (data : Byte) (parityBit : Level) : Bool :=
  let ones := (List.range 8).countP (fun k => data.getLsbD k) + (if parityBit = .high then 1 else 0)
  match p with
  | .none => true
  | .even => decide (ones % 2 = 0)
  | .odd => decide (ones % 2 = 1)

/-- The data bits the receiver reads (R55): eight, or the low seven. -/
def DataBits.read (n : DataBits) (data : Byte) : Byte :=
  match n with
  | .eight => data
  | .seven => data &&& 0x7F

/-- The symbol that a character gives (R56); the first case that applies decides. -/
def LineConfig.judge (c : LineConfig) (data : Byte) (parityBit stopBit : Level) : Symbol :=
  let bits := c.dataBits.read data
  if stopBit = .low ∧ bits = 0 then .error .lineBreak
  else if stopBit = .low then .error .framing
  else if parityAgrees c.parity bits parityBit = true then .value bits
  else .error .parity

/-! ### The event queue -/

/-- Whether a record is the LOST record; every other record is ordinary (R103). -/
def Record.isLost (r : Record) : Bool :=
  match r.body with
  | .lost _ => true
  | .started _ => false
  | .hit _ _ _ _ _ _ => false
  | .lineError _ _ => false
  | .sourceState _ _ => false
  | .trackerShort _ _ => false
  | .injectDone _ _ _ _ => false
  | .power _ => false

/-- Whether a record is marked SENT. -/
def Record.isSent (r : Record) : Bool := decide (r.mark = .sent)

/-- The ordinary count (R101). -/
def EventQueue.ordinaryCount (q : EventQueue) : Nat := q.records.countP fun r => !r.isLost

/-- Whether a LOST record is present (R121). -/
def EventQueue.lostPresent (q : EventQueue) : Bool := q.records.any Record.isLost

/-- The SENT count (R121). -/
def EventQueue.sentCount (q : EventQueue) : Nat := q.records.countP Record.isSent

/-- The WAITING count (R121). -/
def EventQueue.waitingCount (q : EventQueue) : Nat := q.records.countP fun r => !r.isSent

/-- Whether an offered record would enter (R105). -/
def EventQueue.accepts (q : EventQueue) : Bool :=
  decide (q.ordinaryCount < Config.ordinarySlots) && decide (q.lost = 0)

/-! ### Wake outputs -/

/-- Whether an output's gate is open (R123). -/
def WakeConfig.gateOpen (c : WakeConfig) (p : HostPower) : Bool :=
  match c.gate with
  | .any => true
  | .hostOffOnly => decide (p = .absent)

/-- Whether an output is asserted (R123): in LEVEL mode while latch, enable and gate hold (R125), in PULSE mode while
its pulse runs besides (R126). -/
def Wake.asserted (w : Wake) (p : HostPower) : Bool :=
  w.latch && w.config.enable && w.config.gateOpen p &&
    match w.config.mode with
    | .level => true
    | .pulse => w.pulse.isSome

/-- The level at pin Wk (R123). -/
def State.wakePin (s : State) (w : OutputId) : Level :=
  (s.wakes.get w).config.polarity.drive ((s.wakes.get w).asserted s.power.qualified)

/-! ### Session, link and ATTN -/

/-- Whether a session is OPEN. -/
def SessionBlock.isOpen (b : SessionBlock) : Bool := b.opened.isSome

/-- The level at pin ATTN, active low (R174, R182): asserted while CLOSED with a record in the queue. -/
def State.attn (s : State) : Level :=
  if s.session.opened = none ∧ s.queue.records ≠ [] ∧ s.resetHeld = false then .low else .high

/-- The frame being sent on HTX, if any; HTX is high otherwise (R154, R156, R182). -/
def Transmitter.frame? (t : Transmitter) : Option (List Byte) :=
  match t with
  | .idle => none
  | .sendingReply f => some f
  | .sendingNotice f => some f

end Sys2Proof.Machine
end

