-- ==== Sys2Proof/Machine/Frames.lean ====
section
/-! DEFINITION. Machine/Frames.lean: bytes, the check, and the frames of the host link (R143, R144, R183, R184). -/
namespace Sys2Proof.Machine

/-! ### Multi-byte fields, high byte first (R183) -/

/-- A two-byte field. -/
def bytes2 (h : Half) : List Byte := [h.extractLsb' 8 8, h.extractLsb' 0 8]

/-- A four-byte field. -/
def bytes4 (w : Word) : List Byte :=
  [w.extractLsb' 24 8, w.extractLsb' 16 8, w.extractLsb' 8 8, w.extractLsb' 0 8]

/-- The two-byte field read back. -/
def join2 (hi lo : Byte) : Half := hi ++ lo

/-- The four-byte field read back. -/
def join4 (a b c d : Byte) : Word := a ++ b ++ (c ++ d)

/-- A count or a time in one byte. -/
def byteOf (n : Nat) : Byte := BitVec.ofNat 8 n

/-- A count or a time in two bytes. -/
def nat2 (n : Nat) : List Byte := bytes2 (BitVec.ofNat 16 n)

/-- A time in four bytes. -/
def nat4 (n : Nat) : List Byte := bytes4 (BitVec.ofNat 32 n)

/-- A yes-or-no field: 1 for yes and 0 for no (R183). -/
def yesNo (b : Bool) : Byte := if b = true then 1 else 0

/-- A yes-or-no field of a request; any other value is out of range (R183). -/
def yesNo? (b : Byte) : Option Bool := if b = 1 then some true else if b = 0 then some false else none

/-- An optional field: its presence flag, and the field when present (R184). -/
def optField {α : Type} (enc : α → List Byte) (x : Option α) : List Byte :=
  match x with
  | some a => 1 :: enc a
  | none => [0]

/-- A capture list: its count and the values; a count of 0 for an absent one (R184). -/
def captureField (c : Option (List Byte)) : List Byte :=
  match c with
  | some vs => byteOf vs.length :: vs
  | none => [0]

/-- A number below `n` that a byte names. -/
def index? (n : Nat) (b : Byte) : Option (Fin n) := if h : b.toNat < n then some ⟨b.toNat, h⟩ else none

/-- A number in one byte. -/
def indexByte {n : Nat} (i : Fin n) : Byte := byteOf i.val

/-! ### The check (R144) -/

/-- One shift of the check register. -/
def checkShift (r : Half) : Half := if r.msb = true then (r <<< 1) ^^^ 0x1021 else r <<< 1

/-- The check register after one byte. -/
def checkByte (r : Half) (b : Byte) : Half :=
  checkShift (checkShift (checkShift (checkShift (checkShift (checkShift (checkShift (checkShift
    (r ^^^ (b ++ (0 : Byte))))))))))

/-- The check value over a list of bytes. -/
def checkValue (bs : List Byte) : Half := bs.foldl checkByte 0xFFFF

/-- The LEN of a frame with this payload: the bytes from SEQ to the end of PAYLOAD (R143). -/
def lenByte (payload : List Byte) : Byte := byteOf (payload.length + 2)

/-- The whole frame: SYNC, LEN, SEQ, KIND, PAYLOAD and CHECK (R143). -/
def frameBytes (seq kind : Byte) (payload : List Byte) : List Byte :=
  let body := lenByte payload :: seq :: kind :: payload
  Config.syncByte :: (body ++ bytes2 (checkValue body))

/-! ### Status codes and request kinds -/

/-- The status codes (R152). -/
inductive Status
  | ok
  | unknownRequest
  | badLength
  | badValue
  | noSession
  | busy
  | wrongState
  | full
  | badAck
  deriving DecidableEq, Repr

/-- The code of a status (section 11.6). -/
def Status.code : Status → Byte
  | .ok => 0x00
  | .unknownRequest => 0x01
  | .badLength => 0x02
  | .badValue => 0x03
  | .noSession => 0x04
  | .busy => 0x05
  | .wrongState => 0x06
  | .full => 0x07
  | .badAck => 0x08

/-- The 25 request kinds. -/
inductive Kind
  | identify
  | readStatus
  | openSession
  | closeSession
  | holdNotices
  | releaseNotices
  | ackEvents
  | setClock
  | restart
  | setSource
  | readSource
  | inject
  | cancelInject
  | setContact
  | readContacts
  | definePattern
  | armPattern
  | stopPattern
  | erasePattern
  | readPattern
  | readTrackers
  | flushTrackers
  | setWake
  | clearWake
  | readWake
  deriving DecidableEq, Repr

/-- The KIND byte of a request kind (sections 11.2 to 11.4). -/
def Kind.code : Kind → Byte
  | .identify => 0x01
  | .readStatus => 0x02
  | .openSession => 0x03
  | .closeSession => 0x04
  | .holdNotices => 0x05
  | .releaseNotices => 0x06
  | .ackEvents => 0x07
  | .setClock => 0x08
  | .restart => 0x09
  | .setSource => 0x10
  | .readSource => 0x11
  | .inject => 0x12
  | .cancelInject => 0x13
  | .setContact => 0x14
  | .readContacts => 0x15
  | .definePattern => 0x20
  | .armPattern => 0x21
  | .stopPattern => 0x22
  | .erasePattern => 0x23
  | .readPattern => 0x24
  | .readTrackers => 0x28
  | .flushTrackers => 0x29
  | .setWake => 0x30
  | .clearWake => 0x31
  | .readWake => 0x32

/-- Every request kind, in the order of its code. -/
def Kind.all : List Kind :=
  [.identify, .readStatus, .openSession, .closeSession, .holdNotices, .releaseNotices, .ackEvents, .setClock,
   .restart, .setSource, .readSource, .inject, .cancelInject, .setContact, .readContacts, .definePattern,
   .armPattern, .stopPattern, .erasePattern, .readPattern, .readTrackers, .flushTrackers, .setWake, .clearWake,
   .readWake]

/-- The request kind a KIND byte names; none for any other byte (R151, check 3). -/
def Kind.ofByte? (b : Byte) : Option Kind := Kind.all.find? fun k => decide (k.code = b)

/-- Whether a request is refused NO_SESSION without an open session (R151, check 4). -/
def Kind.needsSession : Kind → Bool
  | .identify => false
  | .readStatus => false
  | .openSession => false
  | .restart => false
  | .closeSession => true
  | .holdNotices => true
  | .releaseNotices => true
  | .ackEvents => true
  | .setClock => true
  | .setSource => true
  | .readSource => true
  | .inject => true
  | .cancelInject => true
  | .setContact => true
  | .readContacts => true
  | .definePattern => true
  | .armPattern => true
  | .stopPattern => true
  | .erasePattern => true
  | .readPattern => true
  | .readTrackers => true
  | .flushTrackers => true
  | .setWake => true
  | .clearWake => true
  | .readWake => true

/-- What the block that owns a request answers (R152): a refusal carries its status alone and changes nothing; an
accepted request carries its reply's items and the state it leaves. -/
inductive Answer
  | refuse (status : Status)
  | accept (items : List Byte) (s : State)
  deriving DecidableEq, Repr

end Sys2Proof.Machine
end

