-- ==== Sys2Proof/Machine/Operands.lean ====
section
/-! DEFINITION. Machine/Operands.lean: the fields of request payloads, reply payloads and records: every code of
section 11.6, and every block of bytes of sections 11.3 to 11.5, read and written.

Reading a request's payload is done in two stages, as the manual judges it: `parse` answers none for a payload of a wrong
length (BAD_LENGTH), and `check` answers none for a field out of range (BAD_VALUE). -/
namespace Sys2Proof.Machine

/-! ### Codes (section 11.6) -/

/-- The code of a power condition. -/
def Condition.code : Condition → Byte
  | .always => 0x00
  | .hostOn => 0x01
  | .hostOff => 0x02

/-- The Condition that a request's byte names; none for a byte that is no code of the field (R183). -/
def Condition.ofCode? (b : Byte) : Option Condition :=
  if b = 0x00 then some .always
  else if b = 0x01 then some .hostOn
  else if b = 0x02 then some .hostOff
  else none

/-- The code of a source mode. -/
def SourceMode.code : SourceMode → Byte
  | .live => 0x00
  | .test => 0x01

/-- The SourceMode that a request's byte names; none for a byte that is no code of the field (R183). -/
def SourceMode.ofCode? (b : Byte) : Option SourceMode :=
  if b = 0x00 then some .live
  else if b = 0x01 then some .test
  else none

/-- The code of a rate. -/
def Rate.code : Rate → Byte
  | .r1200 => 0x01
  | .r2400 => 0x02
  | .r4800 => 0x03
  | .r9600 => 0x04
  | .r19200 => 0x05
  | .r38400 => 0x06
  | .r57600 => 0x07
  | .r115200 => 0x08

/-- The Rate that a request's byte names; none for a byte that is no code of the field (R183). -/
def Rate.ofCode? (b : Byte) : Option Rate :=
  if b = 0x01 then some .r1200
  else if b = 0x02 then some .r2400
  else if b = 0x03 then some .r4800
  else if b = 0x04 then some .r9600
  else if b = 0x05 then some .r19200
  else if b = 0x06 then some .r38400
  else if b = 0x07 then some .r57600
  else if b = 0x08 then some .r115200
  else none

/-- The data bits field carries the number 7 or 8 (section 11.3). -/
def DataBits.code : DataBits → Byte
  | .seven => 7
  | .eight => 8

/-- The DataBits that a request's byte names; none for a byte that is no code of the field (R183). -/
def DataBits.ofCode? (b : Byte) : Option DataBits :=
  if b = 7 then some .seven
  else if b = 8 then some .eight
  else none

/-- The code of a parity. -/
def Parity.code : Parity → Byte
  | .none => 0x01
  | .even => 0x02
  | .odd => 0x03

/-- The Parity that a request's byte names; none for a byte that is no code of the field (R183). -/
def Parity.ofCode? (b : Byte) : Option Parity :=
  if b = 0x01 then some .none
  else if b = 0x02 then some .even
  else if b = 0x03 then some .odd
  else Option.none

/-- The code of a supply domain. -/
def Domain.code : Domain → Byte
  | .standby => 0x01
  | .host => 0x02

/-- The Domain that a request's byte names; none for a byte that is no code of the field (R183). -/
def Domain.ofCode? (b : Byte) : Option Domain :=
  if b = 0x01 then some .standby
  else if b = 0x02 then some .host
  else none

/-- The code of an error kind. -/
def ErrorKind.code : ErrorKind → Byte
  | .framing => 0x01
  | .parity => 0x02
  | .lineBreak => 0x03

/-- The ErrorKind that a request's byte names; none for a byte that is no code of the field (R183). -/
def ErrorKind.ofCode? (b : Byte) : Option ErrorKind :=
  if b = 0x01 then some .framing
  else if b = 0x02 then some .parity
  else if b = 0x03 then some .lineBreak
  else none

/-- The code of a report selection. -/
def Selection.code : Selection → Byte
  | .none => 0x00
  | .press => 0x01
  | .release => 0x02
  | .both => 0x03

/-- The Selection that a request's byte names; none for a byte that is no code of the field (R183). -/
def Selection.ofCode? (b : Byte) : Option Selection :=
  if b = 0x00 then some .none
  else if b = 0x01 then some .press
  else if b = 0x02 then some .release
  else if b = 0x03 then some .both
  else Option.none

/-- The code of a wake mode. -/
def WakeMode.code : WakeMode → Byte
  | .level => 0x00
  | .pulse => 0x01

/-- The WakeMode that a request's byte names; none for a byte that is no code of the field (R183). -/
def WakeMode.ofCode? (b : Byte) : Option WakeMode :=
  if b = 0x00 then some .level
  else if b = 0x01 then some .pulse
  else none

/-- The code of a gate. -/
def Gate.code : Gate → Byte
  | .any => 0x00
  | .hostOffOnly => 0x01

/-- The Gate that a request's byte names; none for a byte that is no code of the field (R183). -/
def Gate.ofCode? (b : Byte) : Option Gate :=
  if b = 0x00 then some .any
  else if b = 0x01 then some .hostOffOnly
  else none

/-- The code of a contact polarity. -/
def contactPolarityCode : Polarity → Byte
  | .activeLow => 0x00
  | .activeHigh => 0x01

/-- The contact polarity that a request's byte names. -/
def contactPolarity? (b : Byte) : Option Polarity :=
  if b = 0x00 then some .activeLow
  else if b = 0x01 then some .activeHigh
  else none

/-- The code of a wake polarity; the two codes lie the other way round from a contact's. -/
def wakePolarityCode : Polarity → Byte
  | .activeHigh => 0x00
  | .activeLow => 0x01

/-- The wake polarity that a request's byte names. -/
def wakePolarity? (b : Byte) : Option Polarity :=
  if b = 0x00 then some .activeHigh
  else if b = 0x01 then some .activeLow
  else none

/-- The code of a pattern state; an EMPTY entry is `none`. -/
def entryStateCode (e : Option Entry) : Byte :=
  match e with
  | none => 0x00
  | some e =>
    match e.phase with
    | .stopped => 0x01
    | .armed => 0x02
    | .spent => 0x03

/-- The code of a source state. -/
def SourceState.code : SourceState → Byte
  | .off => 0x00
  | .settling _ => 0x01
  | .listening => 0x02
  | .test => 0x03

/-- The code of a pin level or stable level. -/
def levelCode : Level → Byte
  | .low => 0x00
  | .high => 0x01

/-- The code of a host-power state. -/
def HostPower.code : HostPower → Byte
  | .absent => 0x00
  | .present => 0x01

/-- The code of a flow. -/
def Flow.code : Flow → Byte
  | .flowing => 0x00
  | .held => 0x01

/-- The code of a close reason. -/
def CloseReason.code : CloseReason → Byte
  | .none => 0x00
  | .requested => 0x01
  | .reopened => 0x02
  | .noticeTimeout => 0x03
  | .linkReset => 0x04
  | .hostPower => 0x05

/-- The code of a STARTED record's cause. -/
def StartCause.code : StartCause → Byte
  | .powerOn => 0x01
  | .restart => 0x02

/-- The code of an INJECT_DONE record's reason. -/
def RunEnd.code : RunEnd → Byte
  | .emptied => 0x01
  | .cancelled => 0x02
  | .sourceOff => 0x03

/-! ### Sets (R185) -/

/-- A source set; a set with bit 7 set names a source number above 6. -/
def sourceSet? (b : Byte) : Option (BitVec 7) := if b.getLsbD 7 = true then none else some (b.setWidth 7)

/-- A set of outputs; a set with any of bits 4 to 7 set names an output beyond W3. -/
def outputSet? (b : Byte) : Option (BitVec 4) := if b &&& 0xF0 = 0 then some (b.setWidth 4) else none

/-! ### Pairs of bytes: steps and injection entries -/

/-- Exactly `n` pairs of bytes, and nothing after them. -/
def pairs? (n : Nat) (bs : List Byte) : Option (List (Byte × Byte)) :=
  match n, bs with
  | 0, [] => some []
  | 0, _ :: _ => none
  | _ + 1, [] => none
  | _ + 1, [_] => none
  | n + 1, a :: b :: rest => (pairs? n rest).map ((a, b) :: ·)

/-! ### The definition (section 11.4) -/

/-- A DEFINE_PATTERN payload split into its fields: what the length check of R16 accepts. A presence flag stands as
the byte that carried it. -/
structure RawDefinition where
  index : Byte
  label : Half
  sources : Byte
  gapLimit : Half
  spanFlag : Byte
  span : Option Word
  policy : Byte
  holdoff : Half
  condition : Byte
  consume : Byte
  oneShot : Byte
  report : Byte
  capture : Byte
  route : Byte
  skipFlag : Byte
  skip : Option (Byte × Byte)
  steps : List (Byte × Byte)
  deriving DecidableEq, Repr

/-- The span limit that a presence flag announces, with the bytes after it; any nonzero flag counts as present (R16). -/
def spanField? (flag : Byte) (bs : List Byte) : Option (Option Word × List Byte) :=
  if flag = 0 then some (none, bs)
  else
    match bs with
    | a :: b :: c :: d :: rest => some (some (join4 a b c d), rest)
    | _ => none

/-- The skip filter that a presence flag announces, with the bytes after it (R16). -/
def skipField? (flag : Byte) (bs : List Byte) : Option (Option (Byte × Byte) × List Byte) :=
  if flag = 0 then some (none, bs)
  else
    match bs with
    | v :: m :: rest => some (some (v, m), rest)
    | _ => none

/-- The step count and exactly that many steps, 1 to 12 of them (R16). -/
def stepsField? (bs : List Byte) : Option (List (Byte × Byte)) :=
  match bs with
  | n :: rest => if 1 ≤ n.toNat ∧ n.toNat ≤ 12 then pairs? n.toNat rest else none
  | [] => none

/-- The length stage of DEFINE_PATTERN (R16, R184). -/
def RawDefinition.parse (payload : List Byte) : Option RawDefinition :=
  match payload with
  | index :: l1 :: l0 :: sources :: g1 :: g0 :: spanFlag :: rest =>
    match spanField? spanFlag rest with
    | some (span, policy :: h1 :: h0 :: condition :: consume :: oneShot :: report :: capture :: route :: skipFlag :: rest) =>
      match skipField? skipFlag rest with
      | some (skip, rest) =>
        match stepsField? rest with
        | some steps =>
          some { index, label := join2 l1 l0, sources, gapLimit := join2 g1 g0, spanFlag, span, policy,
                 holdoff := join2 h1 h0, condition, consume, oneShot, report, capture, route, skipFlag, skip, steps }
        | none => none
      | none => none
    | _ => none
  | _ => none

/-- A presence flag other than 0 or 1 is out of range (R17). -/
def presence? (b : Byte) : Option Unit := if b = 0 ∨ b = 1 then some () else none

/-- The gap limit, 1 to 60000 (R17). -/
def gapLimit? (h : Half) : Option Nat := if 1 ≤ h.toNat ∧ h.toNat ≤ 60000 then some h.toNat else none

/-- The span limit, absent or 1 to 600000 (R17). -/
def spanLimit? (w : Option Word) : Option (Option Nat) :=
  match w with
  | none => some none
  | some w => if 1 ≤ w.toNat ∧ w.toNat ≤ 600000 then some (some w.toNat) else none

/-- The mismatch policy with its holdoff time: RESTART with 0, or HOLDOFF with 1 to 60000 (R17). -/
def policy? (code : Byte) (time : Half) : Option Policy :=
  if code = 0x00 then (if time = 0 then some .restart else none)
  else if code = 0x01 then (if 1 ≤ time.toNat ∧ time.toNat ≤ 60000 then some (.holdoff time.toNat) else none)
  else none

/-- The value stage of DEFINE_PATTERN, the index apart (R17). -/
def RawDefinition.check (r : RawDefinition) : Option Definition := do
  let sources ← sourceSet? r.sources
  let _ ← presence? r.spanFlag
  let _ ← presence? r.skipFlag
  let gapLimit ← gapLimit? r.gapLimit
  let spanLimit ← spanLimit? r.span
  let policy ← policy? r.policy r.holdoff
  let condition ← Condition.ofCode? r.condition
  let consume ← yesNo? r.consume
  let oneShot ← yesNo? r.oneShot
  let report ← yesNo? r.report
  let capture ← yesNo? r.capture
  let route ← outputSet? r.route
  if sources = 0 ∨ (capture = true ∧ report = false) then none
  else
    some { label := r.label, sources, steps := r.steps.map fun p => { value := p.1, mask := p.2 },
           skip := r.skip.map fun p => { value := p.1, mask := p.2 }, gapLimit, spanLimit, policy, condition,
           consume, oneShot, report, capture, route }

/-- The two bytes of a step or a skip filter. -/
def PatternStep.bytes (st : PatternStep) : List Byte := [st.value, st.mask]

/-- The code and the holdoff time of a mismatch policy. -/
def Policy.bytes : Policy → List Byte
  | .restart => 0x00 :: nat2 0
  | .holdoff t => 0x01 :: nat2 t

/-- A definition as READ_PATTERN carries it, and DEFINE_PATTERN after its index byte (section 11.4). -/
def Definition.bytes (d : Definition) : List Byte :=
  bytes2 d.label ++ [d.sources.setWidth 8] ++ nat2 d.gapLimit ++ optField nat4 d.spanLimit ++ d.policy.bytes ++
    [d.condition.code, yesNo d.consume, yesNo d.oneShot, yesNo d.report, yesNo d.capture, d.route.setWidth 8] ++
    optField PatternStep.bytes d.skip ++ byteOf d.steps.length :: d.steps.flatMap PatternStep.bytes

/-! ### Source configurations (section 11.3) -/

/-- The settle time, 0 to 2000 (R62, R81). -/
def settleTime? (h : Half) : Option Nat := if h.toNat ≤ 2000 then some h.toNat else none

/-- The inject spacing, 0 to 1000 (R62, R81). -/
def spacing? (h : Half) : Option Nat := if h.toNat ≤ 1000 then some h.toNat else none

/-- The eleven bytes of a source configuration, as they came. -/
structure RawSource where
  enable : Byte
  mode : Byte
  rate : Byte
  dataBits : Byte
  parity : Byte
  domain : Byte
  settleTime : Half
  reporting : Byte
  spacing : Half
  deriving DecidableEq, Repr

/-- A SET_SOURCE payload: source number and configuration, 12 bytes. -/
def RawSource.parse (payload : List Byte) : Option (Byte × RawSource) :=
  match payload with
  | [src, en, mode, rate, bits, par, dom, s1, s0, rep, i1, i0] =>
    some (src, { enable := en, mode := mode, rate := rate, dataBits := bits, parity := par, domain := dom,
                 settleTime := join2 s1 s0, reporting := rep, spacing := join2 i1 i0 })
  | _ => none

/-- The fields all sources have (R62, R81). -/
def RawSource.common? (r : RawSource) : Option SourceConfig := do
  let enable ← yesNo? r.enable
  let mode ← SourceMode.ofCode? r.mode
  let settleTime ← settleTime? r.settleTime
  let reporting ← yesNo? r.reporting
  let spacing ← spacing? r.spacing
  some { enable, mode, settleTime, reporting, spacing }

/-- The fields of a serial source's line (R62). -/
def RawSource.line? (r : RawSource) : Option LineConfig := do
  let rate ← Rate.ofCode? r.rate
  let dataBits ← DataBits.ofCode? r.dataBits
  let parity ← Parity.ofCode? r.parity
  let domain ← Domain.ofCode? r.domain
  some { rate, dataBits, parity, domain }

/-- SC's four fields without meaning must be given as 0 (R81). -/
def RawSource.lineZero (r : RawSource) : Bool := decide (r.rate = 0 ∧ r.dataBits = 0 ∧ r.parity = 0 ∧ r.domain = 0)

/-- A source configuration as READ_SOURCE carries it; SC's four fields read 0 (R87). -/
def sourceConfigBytes (c : SourceConfig) (line : Option LineConfig) : List Byte :=
  [yesNo c.enable, c.mode.code] ++
    (match line with
     | some l => [l.rate.code, l.dataBits.code, l.parity.code, l.domain.code]
     | none => [0, 0, 0, 0]) ++
    nat2 c.settleTime ++ [yesNo c.reporting] ++ nat2 c.spacing

/-! ### Contact and wake configurations (sections 11.3 and 11.4) -/

/-- The debounce time in ms: 0, 5, 20 or 50 (R84). -/
def debounce? (b : Byte) : Option Nat := if b = 0 ∨ b = 5 ∨ b = 20 ∨ b = 50 then some b.toNat else none

/-- A channel configuration (R84). -/
def contactConfig? (polarity debounce selection : Byte) : Option ContactConfig := do
  let polarity ← contactPolarity? polarity
  let debounce ← debounce? debounce
  let selection ← Selection.ofCode? selection
  some { polarity, debounce, selection }

/-- The three bytes of a channel configuration. -/
def ContactConfig.bytes (c : ContactConfig) : List Byte :=
  [contactPolarityCode c.polarity, byteOf c.debounce, c.selection.code]

/-- A wake output's configuration (R127). -/
def wakeConfig? (enable mode polarity width gate autoClear : Byte) : Option WakeConfig := do
  let enable ← yesNo? enable
  let mode ← WakeMode.ofCode? mode
  let polarity ← wakePolarity? polarity
  let gate ← Gate.ofCode? gate
  let autoClear ← yesNo? autoClear
  if width = 0 then none else some { enable, mode, polarity, width, gate, autoClear }

/-- The six bytes of an output configuration. -/
def WakeConfig.bytes (c : WakeConfig) : List Byte :=
  [yesNo c.enable, c.mode.code, wakePolarityCode c.polarity, c.width, c.gate.code, yesNo c.autoClear]

/-! ### Injection entries (R89, R90, R185) -/

/-- The length stage of INJECT: source, declared count 1 to 32, and exactly that many entries (R89). -/
def parseInject (payload : List Byte) : Option (Byte × List (Byte × Byte)) :=
  match payload with
  | src :: n :: rest =>
    if 1 ≤ n.toNat ∧ n.toNat ≤ 32 then (pairs? n.toNat rest).map fun es => (src, es) else none
  | _ => none

/-- An injection entry: type 0 a value, type 1 an error kind (R185). -/
def injectionEntry? (e : Byte × Byte) : Option Symbol :=
  if e.1 = 0 then some (.value e.2)
  else if e.1 = 1 then (ErrorKind.ofCode? e.2).map Symbol.error
  else none

/-- Whether a source may be given an entry (R90): 7 data bits allow no value above 127, SC no error entry and no value
but a contact symbol. -/
def entryAllowed (line : Option LineConfig) (e : Symbol) : Bool :=
  match line, e with
  | some l, .value v => decide (l.dataBits = .eight ∨ v.toNat ≤ 127)
  | some _, .error _ => true
  | none, .value v => decide (v.toNat ≤ 7 ∨ (16 ≤ v.toNat ∧ v.toNat ≤ 23))
  | none, .error _ => false

/-- Every entry of an INJECT, each read and allowed, or none: one bad entry refuses the whole request (R90). -/
def injectionEntries? (line : Option LineConfig) (es : List (Byte × Byte)) : Option (List Symbol) :=
  match es with
  | [] => some []
  | e :: rest =>
    match injectionEntry? e, injectionEntries? line rest with
    | some x, some xs => if entryAllowed line x = true then some (x :: xs) else none
    | _, _ => none

/-! ### Trackers and records (sections 11.4 and 11.5) -/

/-- A tracker in a READ_TRACKERS reply. -/
def Tracker.bytes (t : Tracker) (id : TrackerId) : List Byte :=
  [indexByte id, indexByte t.pattern, indexByte t.source, byteOf t.next] ++ nat2 t.gap ++ optField nat4 t.span ++
    bytes4 t.start ++ captureField t.captured

/-- The kind byte of a record. -/
def RecordBody.kindCode : RecordBody → Byte
  | .started _ => 0x01
  | .hit _ _ _ _ _ _ => 0x02
  | .lineError _ _ => 0x03
  | .sourceState _ _ => 0x04
  | .trackerShort _ _ => 0x05
  | .injectDone _ _ _ _ => 0x06
  | .power _ => 0x07
  | .lost _ => 0x08

/-- The new state and the cause of a SOURCE_STATE record. -/
def SourceChange.bytes : SourceChange → List Byte
  | .listeningSettled => [0x02, 0x01]
  | .offHostPower => [0x00, 0x02]

/-- The fields of a record's kind. -/
def RecordBody.bytes : RecordBody → List Byte
  | .started c => [c.code]
  | .hit p label src n start cap =>
    [indexByte p] ++ bytes2 label ++ [indexByte src, byteOf n] ++ bytes4 start ++ captureField cap
  | .lineError src k => [indexByte src, k.code]
  | .sourceState src c => indexByte src :: c.bytes
  | .trackerShort src p => [indexByte src, indexByte p]
  | .injectDone src d c r => [indexByte src] ++ bytes2 d ++ bytes2 c ++ [r.code]
  | .power p => [p.code]
  | .lost n => bytes2 n

/-- A record as a notice's payload: every field but the delivery mark (R163). -/
def Record.bytes (r : Record) : List Byte := bytes2 r.number ++ [r.body.kindCode] ++ bytes4 r.timestamp ++ r.body.bytes

/-- The frame of a notice: SEQ 0, KIND $80 and the record (R143). -/
def Record.notice (r : Record) : List Byte := frameBytes 0 Config.noticeKind r.bytes

/-- The frame of a reply: the SEQ and KIND of its request (R143, R152). -/
def Reply.frame (r : Reply) : List Byte := frameBytes r.seq r.kind r.payload

end Sys2Proof.Machine
end

