-- ==== Sys2Proof/Machine/Ops.lean ====
section
/-! DEFINITION. Machine/Ops.lean: the operations that the commands share: offering a record, releasing trackers and
clearing holdoffs, the transmit arbiter, the closing of a session, the entry of a reply, the link's discards, and the
reset. -/
namespace Sys2Proof.Machine

/-! ### The event queue -/

/-- A record enters at the tail with the next event number, WAITING (R105, R110). -/
def EventQueue.enter (q : EventQueue) (clock : Word) (b : RecordBody) : EventQueue :=
  { q with
    records := q.records ++ [{ number := q.nextNumber, timestamp := clock, mark := .waiting, body := b }]
    nextNumber := q.nextNumber + 1 }

/-- An offer (R105): the record enters, or it is dropped and counted (R107). -/
def EventQueue.offer (q : EventQueue) (clock : Word) (b : RecordBody) : EventQueue :=
  if q.accepts = true then q.enter clock b else { q with lost := countUp q.lost }

/-- A record offered within an event, stamped with the clock reading at the event (R104, R105). -/
def State.offer (s : State) (b : RecordBody) : State := { s with queue := s.queue.offer s.clock b }

/-- A record offered when `c` holds. -/
def State.offerIf (s : State) (c : Bool) (b : RecordBody) : State := if c = true then s.offer b else s

/-- Every SENT record becomes WAITING (R112). -/
def EventQueue.allWaiting (q : EventQueue) : EventQueue :=
  { q with records := q.records.map fun r => { r with mark := .waiting } }

/-- The oldest WAITING record, and the list with it marked SENT (R111, R163). -/
def markOldestWaiting : List Record → Option (Record × List Record)
  | [] => none
  | r :: rs =>
    match r.mark with
    | .waiting => some (r, { r with mark := .sent } :: rs)
    | .sent => (markOldestWaiting rs).map fun x => (x.1, r :: x.2)

/-! ### Trackers and holdoffs (R24, R27, R47, R48, R52) -/

/-- The trackers for which `p` holds are released; a release offers no record and starts no holdoff (R24). -/
def State.releaseTrackers (s : State) (p : Tracker → Bool) : State :=
  { s with trackers := s.trackers.map fun slot => slot.filter fun t => !p t }

/-- The seven holdoff entries of a pattern become clear (R27). -/
def State.clearPatternHoldoffs (s : State) (p : PatternId) : State :=
  { s with holdoffs := s.holdoffs.set p (Table.fill 7 none) }

/-- The holdoff entries of all patterns on a source become clear (R48, R52). -/
def State.clearSourceHoldoffs (s : State) (src : SourceId) : State :=
  { s with holdoffs := s.holdoffs.map fun row => row.set src none }

/-- The holdoff entry of a pattern and a source takes a value (R25, R26, R32). -/
def setHoldoff (h : Table (Table Timer 7) 32) (p : PatternId) (src : SourceId) (t : Timer) : Table (Table Timer 7) 32 :=
  h.modify p fun row => row.set src t

/-- A source leaves LISTENING or TEST for OFF: all its trackers are released and all its holdoffs cleared (R48). -/
def State.sourceOffRelease (s : State) (src : SourceId) : State :=
  (s.releaseTrackers fun t => decide (t.source = src)).clearSourceHoldoffs src

/-! ### The transmitter and the notices (R154, R163, R167) -/

/-- A notice is handed over: the retransmit timer starts if it is stopped (R167). -/
def OpenSession.timerAtHandover (o : OpenSession) : Timer :=
  match o.timer with
  | none => some o.timeout
  | some t => some t

/-- The session block's choice when the arbiter asks for a notice, with the state after the handover (R163): first from
the resend list, then, while FLOWING with room in the window, the oldest WAITING record, which becomes SENT. -/
def State.chooseNotice (s : State) : Option (Record × State) :=
  match s.session.opened with
  | none => none
  | some o =>
    match o.resend with
    | n :: rest =>
      match s.queue.records.find? fun r => decide (r.number = n) with
      | some r =>
        some (r, { s with session := { s.session with
          opened := some { o with resend := rest, timer := o.timerAtHandover } } })
      | none => none
    | [] =>
      if o.flow = .flowing ∧ s.queue.sentCount < o.window then
        match markOldestWaiting s.queue.records with
        | some (r, records) =>
          some (r, { s with
            queue := { s.queue with records := records }
            session := { s.session with opened := some { o with timer := o.timerAtHandover } } })
        | none => none
      else none

/-- The transmitter takes a notice if the session block has one (R154, step 2). -/
def State.beginNotice (s : State) : State :=
  match s.chooseNotice with
  | some (r, s') => { s' with link := { s'.link with transmitter := .sendingNotice r.notice } }
  | none => s

/-- The transmit arbiter: an idle transmitter of a link that is not held begins the oldest reply, else a notice, else
stays idle (R154, R156). -/
def State.arbitrate (s : State) : State :=
  if s.linkHeld = true ∨ s.link.transmitter ≠ .idle then s
  else
    match s.link.replies with
    | r :: _ => { s with link := { s.link with transmitter := .sendingReply r.frame } }
    | [] => s.beginNotice

/-! ### The session (R161) -/

/-- A session closes: its SENT records become WAITING, everything held while OPEN is gone, and the reason is kept. With
no session open nothing changes (R150, R161, R162). -/
def State.closeSession (s : State) (reason : CloseReason) : State :=
  match s.session.opened with
  | none => s
  | some _ =>
    { s with
      queue := s.queue.allWaiting
      session := { s.session with opened := none, lastClose := reason } }

/-! ### Replies (R152, R153, R171) -/

/-- A reply enters the tail of the reply queue. -/
def State.enqueueReply (s : State) (r : Reply) : State :=
  { s with link := { s.link with replies := s.link.replies ++ [r] } }

/-- The reply becomes the session's saved reply, without a restart mark (R171, R179): while a session is open, for every
request but OPEN_SESSION and those with SEQ 0. -/
def State.saveReply (s : State) (r : Reply) : State :=
  match s.session.opened with
  | none => s
  | some o =>
    if r.seq = 0 ∨ r.kind = Kind.openSession.code then s
    else { s with session := { s.session with opened := some { o with saved := some { r with restart := false } } } }

/-- FREE CHOICE (assumption 4): where a request's event gives an idle transmitter a notice as well as the reply, which of
the two is begun first is open (R154), but for OPEN_SESSION, whose reply comes first (R159). -/
def State.noticeBeforeReply (s : State) (kind : Byte) : State :=
  if s.linkHeld = true ∨ s.link.transmitter ≠ .idle ∨ s.link.replies ≠ [] ∨ kind = Kind.openSession.code then s
  else
    match s.chooseNotice with
    | none => s
    | some _ =>
      let s' := { s with choices := s.choices + 1 }
      if Config.noticeFirst s.choices = true then s'.beginNotice else s'

/-- A request is answered: the reply enters the reply queue within the request's event, and an idle transmitter begins
(R152, R154). -/
def State.reply (s : State) (r : Reply) : State :=
  (((s.noticeBeforeReply r.kind).saveReply r).enqueueReply r).arbitrate

/-! ### The link's receiver -/

/-- The link error count rises by one (R148). -/
def Link.countError (l : Link) : Link := { l with errors := countUp l.errors }

/-- A frame being received is discarded and counted, and the frame receiver is HUNTING (R148); a receiver that is
HUNTING stays so, uncounted. -/
def Link.dropPartial (l : Link) : Link :=
  match l.receiver with
  | .hunting => l
  | .receiving _ _ _ => { l.countError with receiver := .hunting }

/-- The byte receiver when it must first find the line high (R142). -/
def byteReceiverAt (hrx : Level) : ByteReceiver :=
  match hrx with
  | .high => .hunting
  | .low => .waiting

/-- What a link reset and a hold for host power do to the link alike (R150, R155, R156): a partial frame is discarded
and counted, the timers stop, the reply queue is emptied (with any restart mark, R181) and a frame being sent is
abandoned. -/
def Link.cleared (l : Link) : Link :=
  { l.dropPartial with byteReceiver := .waiting, breakTimer := none, replies := [], transmitter := .idle }

/-! ### Reset (R50, R54, R100, R119, R135, R180, R182) -/

/-- Every block takes its POR values (R180): the contact channels take the levels at their pins (R74), the event queue is
emptied, and the link rate is the one given. The pins, the commands that wait and the count of choices are not the
part's. -/
def State.resetBlocks (s : State) (rate : LinkRate) : State :=
  { State.reset with
    contacts := s.pins.contacts.map resetContact
    queue := { records := [], nextNumber := 0, lost := 0 }
    link := { State.reset.link with rate := rate }
    pins := s.pins
    choices := s.choices
    pending := s.pending }

/-- Host-power qualification begins: the timer starts if HOSTPWR is HIGH (R135). -/
def State.beginQualification (s : State) : State :=
  { s with power :=
      { qualified := .absent
        timer := match s.pins.hostpwr with
          | .high => some Config.qualificationTime
          | .low => none } }

/-- The reset sequence: POR values, then the STARTED record as number 0 with timestamp 0, then qualification (R119, R180,
R182). -/
def State.startUp (s : State) (rate : LinkRate) (cause : StartCause) : State :=
  ((s.resetBlocks rate).offer (.started cause)).beginQualification

/-- The rate that the straps give (R141). -/
def strapRate (lr1 lr0 : Level) : LinkRate :=
  match lr1, lr0 with
  | .low, .low => .r9600
  | .low, .high => .r38400
  | .high, .low => .r115200
  | .high, .high => .r460800

end Sys2Proof.Machine
end

