-- ==== Sys2Proof/Machine/Engine.lean ====
section
/-! DEFINITION. Machine/Engine.lean: the judging of one arrival (section 2.3), and the expiries of the engine's timers
(sections 2.2 and 2.4). -/
namespace Sys2Proof.Machine

/-! ### Part 1: existing trackers -/

/-- A completion on the arrival's completion list (R30, R34). -/
structure Completion where
  pattern : PatternId
  start : Word
  captured : Option (List Byte)
  deriving DecidableEq, Repr

/-- What an arrival means to one tracker on its source (R29 to R32). -/
inductive Verdict
  | passedOver
  | advanced (t : Tracker)
  | completed (c : Completion)
  | mismatched
  deriving DecidableEq, Repr

/-- The captured symbols with the value of one more matched symbol (R29, R30). -/
def Tracker.captureNext (t : Tracker) (sym : Symbol) : Option (List Byte) :=
  match sym with
  | .value v => t.captured.map (· ++ [v])
  | .error _ => t.captured

/-- The judging of one tracker by its pattern's definition (R29 to R31). An advance sets the gap deadline again and leaves the
span deadline as it is (R44, R45). DESIGN CHOICE (assumption 18): so it does where the span deadline stands at 0 and its expiry
comes together with the arrival, a case in which R46 has the expiry no longer apply. -/
def Tracker.judge (t : Tracker) (d : Definition) (sym : Symbol) : Verdict :=
  if d.passesOver sym = true then .passedOver
  else if d.matchesStep t.next sym = true then
    if t.next + 1 = d.steps.length then
      .completed { pattern := t.pattern, start := t.start, captured := t.captureNext sym }
    else .advanced { t with next := t.next + 1, gap := d.gapLimit, captured := t.captureNext sym }
  else .mismatched

/-- The judging of one tracker in use: those on the arrival's source whose pattern takes part (R28, R29). -/
def State.verdict (s : State) (src : SourceId) (sym : Symbol) (t : Tracker) : Option Verdict :=
  if t.source = src then (s.participant src t.pattern).map fun d => t.judge d sym else none

/-- What part 1 leaves in a tracker's place. -/
def State.trackerAfter (s : State) (src : SourceId) (sym : Symbol) (t : Tracker) : Option Tracker :=
  match s.verdict src sym t with
  | none => some t
  | some .passedOver => some t
  | some (.advanced t') => some t'
  | some (.completed _) => none
  | some .mismatched => none

/-- The completion that part 1 finds in a tracker (R30). -/
def State.completionOf (s : State) (src : SourceId) (sym : Symbol) (t : Tracker) : Option Completion :=
  match s.verdict src sym t with
  | some (.completed c) => some c
  | some .passedOver => none
  | some (.advanced _) => none
  | some .mismatched => none
  | none => none

/-- The holdoff entry that a mismatch starts under the HOLDOFF policy (R32). -/
def State.holdoffOf (s : State) (src : SourceId) (sym : Symbol) (t : Tracker) : Option (PatternId × Nat) :=
  match s.verdict src sym t with
  | some .mismatched =>
    match (s.participant src t.pattern).map Definition.policy with
    | some (.holdoff time) => some (t.pattern, time)
    | some .restart => none
    | none => none
  | some .passedOver => none
  | some (.advanced _) => none
  | some (.completed _) => none
  | none => none

/-- The trackers in use, in id order. -/
def State.usedTrackers (s : State) : List Tracker := s.trackers.rows.filterMap id

/-- Part 1: every tracker in use on the source is judged once (R29). -/
def State.judgeTrackers (s : State) (src : SourceId) (sym : Symbol) : State :=
  { s with
    trackers := s.trackers.map fun slot => slot.bind (s.trackerAfter src sym)
    holdoffs := (s.usedTrackers.filterMap (s.holdoffOf src sym)).foldl
      (fun h x => setHoldoff h x.1 src (some x.2)) s.holdoffs }

/-! ### Part 2: starts -/

/-- What part 2 gathers: the pool, the completions of one-step patterns, and the first start that was lost. -/
structure Starts where
  trackers : Table (Option Tracker) 24
  completions : List Completion
  firstLost : Option PatternId
  deriving DecidableEq, Repr

/-- The tracker that a start claims (R35). -/
def claimedTracker (p : PatternId) (d : Definition) (src : SourceId) (v : Byte) (clock : Word) : Tracker :=
  { pattern := p, source := src, next := 1, gap := d.gapLimit, span := d.spanLimit, start := clock,
    captured := if d.capture = true then some [v] else none }

/-- A start whose conditions hold: a one-step pattern completes at once (R34), another claims the lowest free tracker
(R24, R35) or is lost (R36, R37). -/
def Starts.start (a : Starts) (p : PatternId) (d : Definition) (src : SourceId) (v : Byte) (clock : Word) : Starts :=
  if d.steps.length = 1 then
    { a with completions := a.completions ++
        [{ pattern := p, start := clock, captured := if d.capture = true then some [v] else none }] }
  else
    match freeTracker a.trackers with
    | some i => { a with trackers := a.trackers.set i (some (claimedTracker p d src v clock)) }
    | none => { a with firstLost := match a.firstLost with
        | none => some p
        | some q => some q }

/-- Whether a pattern taking part is started by a value (R33). -/
def State.mayStart (s : State) (a : Starts) (done : List Completion) (p : PatternId) (d : Definition) (src : SourceId)
    (v : Byte) : Bool :=
  !hasTracker a.trackers p src && !done.any (fun c => decide (c.pattern = p)) &&
    decide ((s.holdoffs.get p).get src = none) && !d.passesOver (.value v) && d.matchesStep 0 (.value v)

/-- One pattern index of part 2's scan (R33). `s` is the state after part 1, `done` part 1's completions. -/
def State.considerStart (s : State) (done : List Completion) (src : SourceId) (v : Byte) (a : Starts) (p : PatternId) :
    Starts :=
  match s.participant src p with
  | some d => if s.mayStart a done p d src v = true then a.start p d src v s.clock else a
  | none => a

/-- Part 2: the patterns are scanned in index order (R33); an error symbol starts none. -/
def State.starts (s : State) (done : List Completion) (src : SourceId) (sym : Symbol) : Starts :=
  let none0 : Starts := { trackers := s.trackers, completions := [], firstLost := none }
  match sym with
  | .value v => (List.finRange 32).foldl (s.considerStart done src v) none0
  | .error _ => none0

/-- The TRACKER_SHORT record of an arrival that lost a start: offered while the source's short-report flag is clear; the
flag is set if the record enters (R37). -/
def State.reportShort (s : State) (src : SourceId) (firstLost : Option PatternId) : State :=
  match firstLost with
  | none => s
  | some p =>
    if s.shortFlags.get src = true then s
    else
      { s.offer (.trackerShort src p) with
        shortFlags := if s.queue.accepts = true then s.shortFlags.set src true else s.shortFlags }

/-! ### Part 3: completions -/

/-- The completion list in pattern index order (R38). -/
def inIndexOrder (cs : List Completion) : List Completion :=
  (List.finRange 32).flatMap fun p => cs.filter fun c => decide (c.pattern = p)

/-- The HIT record of a completion (R39). -/
def hitRecord (c : Completion) (d : Definition) (src : SourceId) : RecordBody :=
  .hit c.pattern d.label src d.steps.length c.start c.captured

/-- One completion taken (R38): the hit count (R14), the HIT record (R39), the latch requests (R40), and the retiring of
a one-shot pattern, whose trackers on every source are released (R41). -/
def State.complete (src : SourceId) (s : State) (c : Completion) : State :=
  match s.patterns.get c.pattern with
  | none => s
  | some e =>
    let d := e.definition
    let counted := { s with patterns := s.patterns.set c.pattern (some { e with
      hits := countUp e.hits, phase := if d.oneShot = true then .spent else e.phase }) }
    let told := counted.offerIf d.report (hitRecord c d src)
    let routed := { told with latchRequests := told.latchRequests ++ routeOutputs d.route }
    if d.oneShot = true then routed.releaseTrackers fun t => decide (t.pattern = c.pattern) else routed

/-- Whether a completed pattern has consume yes (R42). -/
def State.consumes (s : State) (cs : List Completion) : Bool :=
  cs.any fun c =>
    match s.patterns.get c.pattern with
    | some e => e.definition.consume
    | none => false

/-- Part 3: the completions in index order, then consume (R38, R42). -/
def State.takeCompletions (s : State) (src : SourceId) (cs : List Completion) : State :=
  let taken := (inIndexOrder cs).foldl (State.complete src) s
  if s.consumes cs = true then taken.releaseTrackers fun t => decide (t.source = src) else taken

/-- One arrival at a source, whole (R28, R43). -/
def State.arrival (s : State) (src : SourceId) (sym : Symbol) : State :=
  let done := s.usedTrackers.filterMap (s.completionOf src sym)
  let judged := s.judgeTrackers src sym
  let st := judged.starts done src sym
  let started := ({ judged with trackers := st.trackers }).reportShort src st.firstLost
  started.takeCompletions src (done ++ st.completions)

/-! ### Expiries -/

/-- Release of one tracker by its id. -/
def State.freeTrackerAt (s : State) (i : TrackerId) : State := { s with trackers := s.trackers.set i none }

/-- GAP_DEADLINE_EXPIRY (R44): the tracker whose gap deadline has reached 0 is released, with no record and no holdoff. A
deadline that has not reached 0, or a tracker already free, has no expiry to take (R45, R46; assumption 2). -/
def execGapDeadlineExpiry (i : TrackerId) (s : State) : Host.Outcome State Fault Refusal :=
  match s.trackers.get i with
  | some t => if timerDue (some t.gap) = true then .next (s.freeTrackerAt i) else .next s
  | none => .next s

/-- SPAN_DEADLINE_EXPIRY (R45): as the gap deadline's, for a tracker whose pattern has a span limit. DESIGN CHOICE
(assumption 18): an advance taken in between does not take the expiry away. -/
def execSpanDeadlineExpiry (i : TrackerId) (s : State) : Host.Outcome State Fault Refusal :=
  match s.trackers.get i with
  | some t => if timerDue t.span = true then .next (s.freeTrackerAt i) else .next s
  | none => .next s

/-- HOLDOFF_EXPIRY (R26): the running holdoff entry whose remaining time has reached 0 becomes clear. -/
def execHoldoffExpiry (p : PatternId) (src : SourceId) (s : State) : Host.Outcome State Fault Refusal :=
  if timerDue ((s.holdoffs.get p).get src) = true then
    .next { s with holdoffs := setHoldoff s.holdoffs p src none }
  else .next s

end Sys2Proof.Machine
end

