-- ==== Sys2Proof/Machine/Injection.lean ====
section
/-! DEFINITION. Machine/Injection.lean: the delivery of a symbol at a source with the source's counting and reporting
(R58 to R60), the injection queues and their runs, and INJECT, CANCEL_INJECT and INJECT_DELIVERY (chapter 5). -/
namespace Sys2Proof.Machine

/-! ### Delivery at a source -/

/-- The received counter counts a delivered symbol (R59). -/
def State.countReceived (s : State) (src : SourceId) : State :=
  { s with sources := s.sources.modify src fun c => { c with received := c.received + 1 } }

/-- The LINE_ERROR record of a delivered error symbol: offered with reporting yes and the error-report flag clear; the
flag is set if the record enters (R60). -/
def State.reportLineError (s : State) (i : SerialId) (kind : ErrorKind) : State :=
  if (s.sources.get (sourceOf i)).config.reporting = true ∧ (s.serials.get i).errorFlag = false then
    { s.offer (.lineError i kind) with
      serials := if s.queue.accepts = true then s.serials.modify i fun c => { c with errorFlag := true } else s.serials }
  else s

/-- The error counter counts a delivered error symbol, and the symbol is reported (R59, R60). SC has neither (R78). -/
def State.noteError (s : State) (src : SourceId) (sym : Symbol) : State :=
  match sym, serialOf? src with
  | .error k, some i =>
    ({ s with serials := s.serials.modify i fun c => { c with errors := countUp c.errors } }).reportLineError i k
  | .error _, none => s
  | .value _, _ => s

/-- A symbol delivered at a source: one arrival at the engine, counted and reported (R58, R59, R60, R93). -/
def State.deliver (s : State) (src : SourceId) (sym : Symbol) : State :=
  ((s.countReceived src).arrival src sym).noteError src sym

/-! ### The end of a run -/

/-- A run ends (R95, R97, R99): the entries still in the queue are counted as cancelled, the timer stops, INJECT_DONE is
offered with the counts, and both counts become 0. -/
def State.endRun (s : State) (src : SourceId) (reason : RunEnd) : State :=
  let j := s.injectors.get src
  ({ s with injectors := s.injectors.set src resetInjector }).offer
    (.injectDone src j.delivered (countUpBy j.cancelled j.queue.length) reason)

/-- An emptying that finds the queue already empty ends nothing (R96). -/
def State.endRunIfAny (s : State) (src : SourceId) (reason : RunEnd) : State :=
  if (s.injectors.get src).queue = [] then s else s.endRun src reason

/-! ### INJECT and CANCEL_INJECT -/

/-- The line configuration of a source, none for SC. -/
def State.lineOf (s : State) (src : SourceId) : Option LineConfig := (serialOf? src).map fun i => (s.serials.get i).line

/-- The entries of an accepted INJECT join the tail; into an empty queue they begin a run (R91, R92). -/
def Injector.append (j : Injector) (es : List Symbol) (spacing : Nat) : Injector :=
  { j with
    queue := j.queue ++ es
    timer := if j.queue = [] then some spacing else j.timer }

/-- INJECT at the injector (R89, R90, R91). -/
def answerInject (payload : List Byte) (s : State) : Answer :=
  match parseInject payload with
  | none => .refuse .badLength
  | some (srcByte, raw) =>
    match index? 7 srcByte with
    | none => .refuse .badValue
    | some src =>
      match injectionEntries? (s.lineOf src) raw with
      | none => .refuse .badValue
      | some es =>
        let j := s.injectors.get src
        if (s.sources.get src).state ≠ .test then .refuse .wrongState
        else if Config.injectionSlots < j.queue.length + es.length then .refuse .full
        else
          let j' := j.append es (s.sources.get src).config.spacing
          .accept (byteOf j'.queue.length :: bytes2 j'.delivered) { s with injectors := s.injectors.set src j' }

/-- CANCEL_INJECT at the injector (R97). -/
def answerCancelInject (payload : List Byte) (s : State) : Answer :=
  match payload with
  | [srcByte] =>
    match index? 7 srcByte with
    | none => .refuse .badValue
    | some src =>
      let j := s.injectors.get src
      if j.queue = [] then .accept (bytes2 0 ++ bytes2 0) s
      else
        .accept (bytes2 j.delivered ++ bytes2 (countUpBy j.cancelled j.queue.length)) (s.endRun src .cancelled)
  | _ => .refuse .badLength

/-! ### INJECT_DELIVERY -/

/-- After a delivery: with entries left the spacing timer starts again, with none the run ends EMPTIED (R93, R95). -/
def State.afterDelivery (s : State) (src : SourceId) : State :=
  if (s.injectors.get src).queue = [] then s.endRun src .emptied
  else
    { s with injectors := s.injectors.modify src fun j =>
        { j with timer := some (s.sources.get src).config.spacing } }

/-- INJECT_DELIVERY (R93 to R95): the spacing timer of a source in TEST has reached 0, and the head entry is delivered as
one arrival. Without such an expiry nothing is delivered (assumption 2). -/
def execInjectDelivery (src : SourceId) (s : State) : Host.Outcome State Fault Refusal :=
  let j := s.injectors.get src
  match j.queue with
  | sym :: rest =>
    if (s.sources.get src).state = .test ∧ timerDue j.timer = true then
      let j' := { j with queue := rest, delivered := countUp j.delivered, timer := none }
      let taken := { s with injectors := s.injectors.set src j' }
      .next ((taken.deliver src sym).afterDelivery src).arbitrate
    else .next s
  | [] => .next s

end Sys2Proof.Machine
end

