-- ==== Sys2Proof/Machine/Sources.lean ====
section
/-! DEFINITION. Machine/Sources.lean: the states of the seven sources, the serial receivers, SET_SOURCE and READ_SOURCE, and
the sources' response to host power (chapter 3, and section 4.5 for SC). -/
namespace Sys2Proof.Machine

/-! ### States -/

/-- A receiver that begins by waiting for idle; it hunts as soon as it finds the line high (R55). -/
def receiverAt (line : Level) : Receiver :=
  match line with
  | .high => .hunting
  | .low => .waiting

/-- The receiver of a source, if it is a serial one, takes a value. -/
def State.setReceiver (s : State) (src : SourceId) (f : SerialId → Receiver → Receiver) : State :=
  match serialOf? src with
  | some i => { s with serials := s.serials.modify i fun c => { c with receiver := f i c.receiver } }
  | none => s

/-- A source takes a state. -/
def State.setSourceState (s : State) (src : SourceId) (st : SourceState) : State :=
  { s with sources := s.sources.modify src fun c => { c with state := st } }

/-- The SOURCE_STATE record of a change, offered with reporting yes (R68). -/
def State.reportSource (s : State) (src : SourceId) (ch : SourceChange) : State :=
  s.offerIf (s.sources.get src).config.reporting (.sourceState src ch)

/-- The receiver at an entry to LISTENING: a character being received goes on to its end, any other receiver begins by
waiting for idle (R55, R66). -/
def receiverAtListening (line : Level) (r : Receiver) : Receiver :=
  match r with
  | .receiving d => .receiving d
  | .stopped => receiverAt line
  | .waiting => receiverAt line
  | .hunting => receiverAt line

/-- Entry to LISTENING with its record (R65, R66, R82, R83). -/
def State.enterListening (s : State) (src : SourceId) : State :=
  ((s.setSourceState src .listening).setReceiver src fun i r => receiverAtListening (s.pins.lines.get i) r).reportSource
    src .listeningSettled

/-- Entry to SETTLING, or to LISTENING when the settle time is 0 (R65, R70, R82). -/
def State.enterSettling (s : State) (src : SourceId) : State :=
  let t := (s.sources.get src).config.settleTime
  if t = 0 then s.enterListening src
  else (s.setSourceState src (.settling t)).setReceiver src fun i _ => receiverAt (s.pins.lines.get i)

/-- A source goes to OFF (R64, R69, R82): its receiver stops, and from LISTENING or TEST its trackers are released and its
holdoffs cleared (R48). -/
def State.goOff (s : State) (src : SourceId) : State :=
  let off := (s.setSourceState src .off).setReceiver src fun _ _ => .stopped
  match (s.sources.get src).state with
  | .off => off
  | .settling _ => off
  | .listening => off.sourceOffRelease src
  | .test => off.sourceOffRelease src

/-! ### SET_SOURCE (R63 to R65, R81, R82) -/

/-- The state change of an accepted SET_SOURCE; the new configuration is in place. -/
def State.applySource (s : State) (src : SourceId) : State :=
  let c := (s.sources.get src).config
  if c.enable = false then (s.endRunIfAny src .sourceOff).goOff src
  else
    match c.mode with
    | .test => (s.setSourceState src .test).setReceiver src fun _ _ => .stopped
    | .live => s.enterSettling src

/-- The configuration is replaced whole and the counters become 0 (R59, R63). -/
def State.configureSource (s : State) (src : SourceId) (c : SourceConfig) (line : Option LineConfig) : State :=
  let common := { s with sources := s.sources.modify src fun x => { x with config := c, received := 0 } }
  match serialOf? src, line with
  | some i, some l => { common with serials := common.serials.modify i fun x => { x with line := l, errors := 0 } }
  | _, _ => common

/-- A source's error count; 0 for SC (R81, R87). -/
def State.errorCount (s : State) (src : SourceId) : Half :=
  match serialOf? src with
  | some i => (s.serials.get i).errors
  | none => 0

/-- The line configuration of a SET_SOURCE: the fields of R62 for a serial source, and zeros for SC (R81). -/
def RawSource.lineFor? (r : RawSource) (src : SourceId) : Option (Option LineConfig) :=
  match serialOf? src with
  | some _ => r.line?.map some
  | none => if r.lineZero = true then some none else none

/-- SET_SOURCE at the source (R62, R63, R81). -/
def answerSetSource (payload : List Byte) (s : State) : Answer :=
  match RawSource.parse payload with
  | none => .refuse .badLength
  | some (srcByte, raw) =>
    match index? 7 srcByte with
    | none => .refuse .badValue
    | some src =>
      match raw.common?, raw.lineFor? src with
      | some c, some line =>
        let before := s.sources.get src
        if before.config.enable = true ∧ c.enable = true then .refuse .busy
        else
          let s' := (s.configureSource src c line).applySource src
          .accept ([before.state.code, (s'.sources.get src).state.code] ++ bytes4 before.received ++
            bytes2 (s.errorCount src)) s'
      | _, _ => .refuse .badValue

/-! ### READ_SOURCE (R72, R87) -/

/-- The remaining settle time, present in SETTLING (R72). -/
def SourceState.settleRemaining (st : SourceState) : Option Nat :=
  match st with
  | .settling n => some n
  | .off => none
  | .listening => none
  | .test => none

/-- READ_SOURCE at the source (R72, R87). -/
def answerReadSource (payload : List Byte) (s : State) : Answer :=
  match payload with
  | [srcByte] =>
    match index? 7 srcByte with
    | none => .refuse .badValue
    | some src =>
      let c := s.sources.get src
      let flag := match serialOf? src with
        | some i => (s.serials.get i).errorFlag
        | none => false
      .accept (sourceConfigBytes c.config (s.lineOf src) ++ [c.state.code, yesNo c.waitsForPower] ++
        optField nat2 c.state.settleRemaining ++ bytes4 c.received ++ bytes2 (s.errorCount src) ++
        [yesNo flag, yesNo (s.shortFlags.get src), byteOf (s.injectors.get src).queue.length]) s
  | _ => .refuse .badLength

/-! ### Events at a source -/

/-- SETTLE_EXPIRY (R66, R83): a settle timer that has reached 0 takes its source to LISTENING. -/
def execSettleExpiry (src : SourceId) (s : State) : Host.Outcome State Fault Refusal :=
  if timerDue (s.sources.get src).state.settleRemaining = true then .next (s.enterListening src).arbitrate
  else .next s

/-- Whether a receiver takes the character that has ended, and whether the character is discarded (R55): a character is
discarded when it was begun in SETTLING. A receiver that still hunts has had no separate word of the start bit
(assumption 6). -/
def Receiver.takes (r : Receiver) (st : SourceState) : Option Bool :=
  match r with
  | .stopped => none
  | .waiting => none
  | .receiving discard => some discard
  | .hunting =>
    match st with
    | .settling _ => some true
    | .listening => some false
    | .off => none
    | .test => none

/-- The receiver of a line whose level is now known to be `line`, when no character is being received: waiting ends when
the line is found high (R55). -/
def Receiver.sees (r : Receiver) (line : Level) : Receiver :=
  match r, line with
  | .waiting, .high => .hunting
  | .waiting, .low => .waiting
  | .stopped, _ => .stopped
  | .hunting, _ => .hunting
  | .receiving d, _ => .receiving d

/-- The line's level at a serial pin. -/
def State.setLine (s : State) (i : SerialId) (l : Level) : State :=
  { s with pins := { s.pins with lines := s.pins.lines.set i l } }

/-- SERIAL_CHARACTER (R55 to R58): a character whose stop bit has been read is judged, and then delivered in LISTENING or
discarded. After a stop bit read low the receiver waits for idle, after one read high it hunts (R57). -/
def execSerialCharacter (i : SerialId) (data : Byte) (parityBit stopBit : Level) (s : State) :
    Host.Outcome State Fault Refusal :=
  let c := s.serials.get i
  let st := (s.sources.get (sourceOf i)).state
  let lined := s.setLine i stopBit
  match c.receiver.takes st with
  | none => .next (lined.setReceiver (sourceOf i) fun _ r => r.sees stopBit)
  | some discard =>
    let ended := lined.setReceiver (sourceOf i) fun _ _ => receiverAt stopBit
    if discard = false ∧ st = .listening then
      .next (ended.deliver (sourceOf i) (c.line.judge data parityBit stopBit)).arbitrate
    else .next ended

/-- SOURCE_LINE_LEVEL_CHANGE (R55): a rise lets a waiting receiver hunt; a fall in hunting begins a character if the line
is still low at the middle of the bit time, and is otherwise a false start, dropped without a count. -/
def execSourceLineLevelChange (i : SerialId) (level : Level) (lowAtMiddle : Bool) (s : State) :
    Host.Outcome State Fault Refusal :=
  if s.pins.lines.get i = level then .next s
  else
    let settling := match (s.sources.get (sourceOf i)).state with
      | .settling _ => true
      | .off => false
      | .listening => false
      | .test => false
    .next ((s.setLine i level).setReceiver (sourceOf i) fun _ r =>
      match r, level with
      | .hunting, .low => if lowAtMiddle = true then .receiving settling else .hunting
      | r, l => r.sees l)

/-! ### Host power (R69, R70) -/

/-- Whether a serial source follows host power: enable yes, mode LIVE, supply domain HOST. -/
def State.followsPower (s : State) (i : SerialId) : Bool :=
  let c := (s.sources.get (sourceOf i)).config
  c.enable && decide (c.mode = .live ∧ (s.serials.get i).line.domain = .host)

/-- One serial source at a change to ABSENT (R69). -/
def State.losePower (s : State) (i : SerialId) : State :=
  if s.followsPower i = true then
    match (s.sources.get (sourceOf i)).state with
    | .settling _ => (s.goOff (sourceOf i)).reportSource (sourceOf i) .offHostPower
    | .listening => (s.goOff (sourceOf i)).reportSource (sourceOf i) .offHostPower
    | .off => s
    | .test => s
  else s

/-- One serial source at a change to PRESENT (R70). -/
def State.gainPower (s : State) (i : SerialId) : State :=
  if s.followsPower i = true ∧ (s.sources.get (sourceOf i)).state = .off then s.enterSettling (sourceOf i) else s

/-- The serial sources' response to a qualified change, in source number order (R69, R70, R137). -/
def State.sourcesFollow (s : State) (p : HostPower) : State :=
  match p with
  | .absent => (List.finRange 6).foldl State.losePower s
  | .present => (List.finRange 6).foldl State.gainPower s

end Sys2Proof.Machine
end

