-- ==== Sys2Proof/Machine/Contacts.lean ====
section
/-! DEFINITION. Machine/Contacts.lean: the contact channels, their stable changes, and SET_CONTACT and READ_CONTACTS
(chapter 4). -/
namespace Sys2Proof.Machine

/-! ### Stable changes (R75, R78) -/

/-- The contact symbol of a press or a release under a report selection (R78). -/
def contactSymbol (k : ContactId) (sel : Selection) (press : Bool) : Option Byte :=
  match sel, press with
  | .none, _ => none
  | .press, true => some (byteOf k.val)
  | .press, false => none
  | .release, true => none
  | .release, false => some (byteOf (16 + k.val))
  | .both, true => some (byteOf k.val)
  | .both, false => some (byteOf (16 + k.val))

/-- A symbol made on SC reaches the engine while SC is LISTENING (R78, R80). -/
def State.contactArrival (s : State) (sym : Option Byte) : State :=
  match sym with
  | none => s
  | some v => if (s.sources.get sourceSC).state = .listening then s.deliver sourceSC (.value v) else s

/-- A stable change of contact `k` to `level` (R75, R78): the level becomes stable, the timer is stopped, and the press or
release may make a symbol. -/
def State.stableChange (s : State) (k : ContactId) (level : Level) : State :=
  let c := s.contacts.get k
  ({ s with contacts := s.contacts.set k { c with stable := level, timer := none } }).contactArrival
    (contactSymbol k c.config.selection (c.config.polarity.active level))

/-! ### Pin changes and expiries (R76, R77) -/

/-- The level at pin Kk. -/
def State.setContactPin (s : State) (k : ContactId) (l : Level) : State :=
  { s with pins := { s.pins with contacts := s.pins.contacts.set k l } }

/-- A channel's debounce timer takes a value. -/
def State.setDebounce (s : State) (k : ContactId) (t : Timer) : State :=
  { s with contacts := s.contacts.modify k fun c => { c with timer := t } }

/-- A channel's response to its pin's new level (R76, R77). -/
def State.contactPin (s : State) (k : ContactId) (level : Level) : State :=
  let c := s.contacts.get k
  if level = c.stable then s.setDebounce k none
  else if c.config.debounce = 0 then s.stableChange k level
  else
    match c.timer with
    | none => s.setDebounce k (some c.config.debounce)
    | some _ => s

/-- CONTACT_PIN_CHANGE (R76, R77). A pin already at the level has not changed; while RESET is low no pin is read (R182). -/
def execContactPinChange (k : ContactId) (level : Level) (s : State) : Host.Outcome State Fault Refusal :=
  if s.pins.contacts.get k = level then .next s
  else if s.resetHeld = true then .next (s.setContactPin k level)
  else .next ((s.setContactPin k level).contactPin k level).arbitrate

/-- DEBOUNCE_EXPIRY (R76): the timer has reached 0 with the pin still differing, and the pin level becomes stable. -/
def execDebounceExpiry (k : ContactId) (s : State) : Host.Outcome State Fault Refusal :=
  if timerDue (s.contacts.get k).timer = true then
    if s.pins.contacts.get k = (s.contacts.get k).stable then .next (s.setDebounce k none)
    else .next (s.stableChange k (s.pins.contacts.get k)).arbitrate
  else .next s

/-! ### SET_CONTACT and READ_CONTACTS -/

/-- The effect of an accepted SET_CONTACT (R84): the configuration is replaced, and a running timer is restarted at the new
debounce time, or, when that is 0, the pin level becomes stable as part of the request. -/
def State.configureContact (s : State) (k : ContactId) (cfg : ContactConfig) : State :=
  let c := s.contacts.get k
  let s' := { s with contacts := s.contacts.set k { c with config := cfg } }
  match c.timer with
  | none => s'
  | some _ =>
    if cfg.debounce = 0 then s'.stableChange k (s.pins.contacts.get k)
    else s'.setDebounce k (some cfg.debounce)

/-- The stable level of a contact as a pin level and as active or inactive. -/
def Contact.levelBytes (c : Contact) : List Byte := [levelCode c.stable, yesNo (c.config.polarity.active c.stable)]

/-- SET_CONTACT at the contact unit (R84). -/
def answerSetContact (payload : List Byte) (s : State) : Answer :=
  match payload with
  | [kByte, polarity, debounce, selection] =>
    match index? 8 kByte, contactConfig? polarity debounce selection with
    | some k, some cfg =>
      let s' := s.configureContact k cfg
      .accept ((s.contacts.get k).config.bytes ++ (s'.contacts.get k).levelBytes) s'
    | _, _ => .refuse .badValue
  | _ => .refuse .badLength

/-- One contact in a READ_CONTACTS reply (R86). -/
def State.contactBytes (s : State) (k : ContactId) : List Byte :=
  let c := s.contacts.get k
  c.config.bytes ++ [levelCode (s.pins.contacts.get k)] ++ c.levelBytes ++ optField (fun n => [byteOf n]) c.timer

/-- READ_CONTACTS at the contact unit (R86). -/
def answerReadContacts (payload : List Byte) (s : State) : Answer :=
  match payload with
  | [] => .accept ((s.sources.get sourceSC).state.code :: (List.finRange 8).flatMap s.contactBytes) s
  | _ :: _ => .refuse .badLength

end Sys2Proof.Machine
end

