-- ==== Sys2Proof/Machine/WakeUnit.lean ====
section
/-! DEFINITION. Machine/WakeUnit.lean: the wake outputs: latch requests, pulses, gates, and SET_WAKE, CLEAR_WAKE and
READ_WAKE (sections 7.1 to 7.3). -/
namespace Sys2Proof.Machine

/-- An output's latch is cleared, its pulse ends and it is deasserted (R129). -/
def Wake.cleared (w : Wake) : Wake := { w with latch := false, pulse := none }

/-- One latch request at an output (R124, R126). -/
def Wake.request (w : Wake) (p : HostPower) : Wake :=
  if w.config.enable = true ∧ w.config.gateOpen p = true ∧ w.latch = false then
    { w with
      latch := true
      pulse := match w.config.mode with
        | .level => none
        | .pulse => some w.config.width.toNat }
  else w

/-- LATCH_REQUEST (R124): a latch request is taken at the output; if the engine has sent one that is not yet taken, the
oldest such request for the output is the one (assumption 5). -/
def execLatchRequest (w : OutputId) (s : State) : Host.Outcome State Fault Refusal :=
  .next { s with
    latchRequests := s.latchRequests.erase w
    wakes := s.wakes.modify w fun x => x.request s.power.qualified }

/-- PULSE_EXPIRY (R126): a pulse timer that has reached 0 ends its pulse; the latch stays set. -/
def execPulseExpiry (w : OutputId) (s : State) : Host.Outcome State Fault Refusal :=
  if timerDue (s.wakes.get w).pulse = true then
    .next { s with wakes := s.wakes.modify w fun x => { x with pulse := none } }
  else .next s

/-- The opening of a session clears the latches of outputs with auto-clear yes (R130). -/
def State.autoClear (s : State) : State :=
  { s with wakes := s.wakes.map fun w => if w.config.autoClear = true then w.cleared else w }

/-- A wake output at a qualified change of host power (R132): a gate that closes ends a running pulse; a gate that opens
starts none, and a LEVEL output follows its latch. -/
def Wake.gateChange (p : HostPower) (w : Wake) : Wake :=
  if w.config.gateOpen p = true then w else { w with pulse := none }

/-- The wake unit's response to a qualified change (R132). -/
def State.wakesFollow (s : State) (p : HostPower) : State := { s with wakes := s.wakes.map (Wake.gateChange p) }

/-- SET_WAKE at the wake unit (R127, R128). -/
def answerSetWake (payload : List Byte) (s : State) : Answer :=
  match payload with
  | [wByte, enable, mode, polarity, width, gate, autoClear] =>
    match index? 4 wByte, wakeConfig? enable mode polarity width gate autoClear with
    | some w, some cfg =>
      let old := s.wakes.get w
      let new := { old with config := cfg, pulse := none }
      .accept (old.config.bytes ++ [yesNo new.latch, yesNo (new.asserted s.power.qualified)])
        { s with wakes := s.wakes.set w new }
    | _, _ => .refuse .badValue
  | _ => .refuse .badLength

/-- A set of outputs in one byte (R185). -/
def outputSetByte (f : OutputId → Bool) : Byte :=
  (List.finRange 4).foldl (fun b w => if f w = true then b ||| (1#8 <<< w.val) else b) 0#8

/-- CLEAR_WAKE at the wake unit (R129). -/
def answerClearWake (payload : List Byte) (s : State) : Answer :=
  match payload with
  | [setByte] =>
    match outputSet? setByte with
    | none => .refuse .badValue
    | some set =>
      let wakes := Table.tabulate fun w => if set.getLsbD w.val = true then (s.wakes.get w).cleared else s.wakes.get w
      .accept [outputSetByte fun w => set.getLsbD w.val && (s.wakes.get w).latch, outputSetByte fun w => (wakes.get w).latch]
        { s with wakes := wakes }
  | _ => .refuse .badLength

/-- One output in a READ_WAKE reply (R131). -/
def State.wakeBytes (s : State) (w : OutputId) : List Byte :=
  let x := s.wakes.get w
  let p := s.power.qualified
  x.config.bytes ++ [yesNo x.latch] ++ optField (fun n => [byteOf n]) x.pulse ++
    [yesNo (x.config.gateOpen p), yesNo (x.asserted p), levelCode (s.wakePin w)]

/-- READ_WAKE at the wake unit (R131). -/
def answerReadWake (payload : List Byte) (s : State) : Answer :=
  match payload with
  | [] =>
    .accept ((List.finRange 4).flatMap s.wakeBytes ++ [s.power.qualified.code, levelCode s.pins.hostpwr] ++
      optField (fun n => [byteOf n]) s.power.timer) s
  | _ :: _ => .refuse .badLength

end Sys2Proof.Machine
end

