-- ==== Sys2Proof/Machine/Device.lean ====
section
/-! DEFINITION. Machine/Device.lean: the clock, IDENTIFY, READ_STATUS, SET_CLOCK and RESTART, elapsed time, host power and the
reset (chapters 7.4 and 10). -/
namespace Sys2Proof.Machine

/-! ### Requests -/

/-- IDENTIFY (R177). -/
def answerIdentify (payload : List Byte) (s : State) : Answer :=
  match payload with
  | [] => .accept Config.identity s
  | _ :: _ => .refuse .badLength

/-- The items of a READ_STATUS reply (R178). -/
def State.statusBytes (s : State) : List Byte :=
  [yesNo s.session.isOpen, s.session.number] ++
    optField (fun o => [OpenSession.flow o |>.code]) s.session.opened ++
    [s.session.lastClose.code, byteOf s.queue.ordinaryCount, yesNo s.queue.lostPresent, byteOf s.queue.waitingCount,
      byteOf s.queue.sentCount] ++
    bytes2 s.queue.lost ++ [byteOf (trackersInUse s.trackers), s.power.qualified.code] ++
    s.sources.rows.map (fun c => c.state.code) ++ bytes2 s.link.errors ++ bytes4 s.clock

/-- READ_STATUS (R178). -/
def answerReadStatus (payload : List Byte) (s : State) : Answer :=
  match payload with
  | [] => .accept s.statusBytes s
  | _ :: _ => .refuse .badLength

/-- SET_CLOCK (R176): the reply carries the reading before the load. -/
def answerSetClock (payload : List Byte) (s : State) : Answer :=
  match payload with
  | [a, b, c, d] => .accept (bytes4 s.clock) { s with clock := join4 a b c d }
  | _ => .refuse .badLength

/-- RESTART (R179): answered OK alone; the restart mark is set where the reply is formed. -/
def answerRestart (payload : List Byte) (s : State) : Answer :=
  match payload with
  | [] => .accept [] s
  | _ :: _ => .refuse .badLength

/-! ### Elapsed time -/

/-- A tracker's deadlines after one more millisecond (R44, R45). -/
def Tracker.tick (t : Tracker) : Tracker := { t with gap := t.gap - 1, span := tickTimer t.span }

/-- A source's settle timer after one more millisecond (R66). -/
def SourceState.tick (st : SourceState) : SourceState :=
  match st with
  | .settling n => .settling (n - 1)
  | .off => .off
  | .listening => .listening
  | .test => .test

/-- The frame receiver's inter-byte timer after one more millisecond (R147). -/
def FrameReceiver.tick (r : FrameReceiver) : FrameReceiver :=
  match r with
  | .hunting => .hunting
  | .receiving len got t => .receiving len got (t - 1)

/-- Every running timer of the part after one more millisecond of elapsed time (assumption 2). -/
def State.tickTimers (s : State) : State :=
  { s with
    trackers := s.trackers.map fun slot => slot.map Tracker.tick
    holdoffs := s.holdoffs.map fun row => row.map tickTimer
    sources := s.sources.map fun c => { c with state := c.state.tick }
    contacts := s.contacts.map fun c => { c with timer := tickTimer c.timer }
    injectors := s.injectors.map fun j => { j with timer := tickTimer j.timer }
    wakes := s.wakes.map fun w => { w with pulse := tickTimer w.pulse }
    power := { s.power with timer := tickTimer s.power.timer }
    link := { s.link with receiver := s.link.receiver.tick, breakTimer := tickTimer s.link.breakTimer }
    session := { s.session with opened := s.session.opened.map fun o => { o with timer := tickTimer o.timer } } }

/-- CLOCK_TICK (R175): the end of a millisecond. The clock rises, wrapping, and every running timer counts down; while
RESET is low the clock stays at 0 (R182). -/
def execClockTick (s : State) : Host.Outcome State Fault Refusal :=
  if s.resetHeld = true then .next s else .next { s.tickTimers with clock := s.clock + 1 }

/-! ### Host power -/

/-- HOSTPWR_CHANGE (R136): the qualification timer starts when the input comes to differ from the qualified state and stops
when it agrees again. An input already at the level has not changed; while RESET is low no pin is read (R182). -/
def execHostpwrChange (level : Level) (s : State) : Host.Outcome State Fault Refusal :=
  if s.pins.hostpwr = level then .next s
  else
    let pinned := { s with pins := { s.pins with hostpwr := level } }
    if s.resetHeld = true then .next pinned
    else
      .next { pinned with power := { s.power with
        timer :=
          if powerOf level = s.power.qualified then none
          else
            match s.power.timer with
            | none => some Config.qualificationTime
            | some t => some t } }

/-- The trackers of the ARMED patterns that a qualified change makes not effective are released (R10, R49). -/
def State.effectivenessChange (s : State) : State :=
  s.releaseTrackers fun t =>
    match s.patterns.get t.pattern with
    | some e => decide (e.phase = .armed) && !s.entryEffective e
    | none => false

/-- The host link's response to a qualified change (R156): at ABSENT it is held; at PRESENT the hold ends, and the byte
receiver hunts once HRX is high. -/
def State.linkFollows (s : State) (p : HostPower) : State :=
  match p with
  | .absent => { s with link := s.link.cleared }
  | .present => { s with link := { s.link with byteReceiver := byteReceiverAt s.pins.hrx } }

/-- The session block's response to a qualified change (R137, R161). -/
def State.sessionFollows (s : State) (p : HostPower) : State :=
  match p with
  | .absent => s.closeSession .hostPower
  | .present => s

/-- A qualified change of host power (R137): the new state, the POWER record, then the responses; the serial sources'
SOURCE_STATE records follow the POWER record. -/
def State.powerChange (s : State) (p : HostPower) : State :=
  let s1 := ({ s with power := { qualified := p, timer := none } }).offer (.power p)
  ((((s1.sourcesFollow p).effectivenessChange).sessionFollows p).linkFollows p).wakesFollow p

/-- QUALIFIED_POWER_CHANGE (R136, R137): the qualification timer has reached 0 with the input still differing. -/
def execQualifiedPowerChange (s : State) : Host.Outcome State Fault Refusal :=
  if timerDue s.power.timer = true then
    if powerOf s.pins.hostpwr = s.power.qualified then .next { s with power := { s.power with timer := none } }
    else .next (s.powerChange (powerOf s.pins.hostpwr))
  else .next s

/-! ### Power-on reset (R182) -/

/-- RESET_ASSERT (R182): the part is held in reset with POR values; a frame on HTX is cut off at once. -/
def execResetAssert (s : State) : Host.Outcome State Fault Refusal :=
  .next { s.resetBlocks s.link.rate with resetHeld := true }

/-- POWER_ON_SEQUENCE (R182): the straps are sampled, every block takes its POR values, STARTED (POWER_ON) enters and
qualification begins. -/
def execPowerOnSequence (lr1 lr0 : Level) (s : State) : Host.Outcome State Fault Refusal :=
  let strapped := { s with pins := { s.pins with lr1 := lr1, lr0 := lr0 } }
  .next (strapped.startUp (strapRate lr1 lr0) .powerOn)

end Sys2Proof.Machine
end

