-- ==== Sys2Proof/Machine/Patterns.lean ====
section
/-! DEFINITION. Machine/Patterns.lean: the five requests on the pattern table (section 1.5) and the two on the engine
(section 2.6). -/
namespace Sys2Proof.Machine

/-- An entry of the table takes a value. -/
def State.setEntry (s : State) (p : PatternId) (e : Option Entry) : State :=
  { s with patterns := s.patterns.set p e }

/-- An entry's hit count; 0 for an EMPTY entry (R14). -/
def entryHits (e : Option Entry) : Half :=
  match e with
  | some e => e.hits
  | none => 0

/-- Every tracker of a pattern is released (R47). -/
def State.releasePattern (s : State) (p : PatternId) : State := s.releaseTrackers fun t => decide (t.pattern = p)

/-- DEFINE_PATTERN at the pattern table (R16, R17, R18). -/
def answerDefinePattern (payload : List Byte) (s : State) : Answer :=
  match RawDefinition.parse payload with
  | none => .refuse .badLength
  | some raw =>
    match index? 32 raw.index, raw.check with
    | some p, some d =>
      let old := s.patterns.get p
      let accepted := Answer.accept (entryStateCode old :: bytes2 (entryHits old))
        ((s.setEntry p (some { phase := .stopped, definition := d, hits := 0 })).clearPatternHoldoffs p)
      match old with
      | none => accepted
      | some e =>
        match e.phase with
        | .armed => .refuse .busy
        | .stopped => accepted
        | .spent => accepted
    | _, _ => .refuse .badValue

/-- ARM_PATTERN at the pattern table (R19). -/
def answerArmPattern (payload : List Byte) (s : State) : Answer :=
  match payload with
  | [pByte] =>
    match index? 32 pByte with
    | none => .refuse .badValue
    | some p =>
      match s.patterns.get p with
      | none => .refuse .wrongState
      | some e => .accept [entryStateCode (some e)] (s.setEntry p (some { e with phase := .armed }))
  | _ => .refuse .badLength

/-- STOP_PATTERN at the pattern table (R20, R27, R47); on a STOPPED entry nothing changes. -/
def answerStopPattern (payload : List Byte) (s : State) : Answer :=
  match payload with
  | [pByte] =>
    match index? 32 pByte with
    | none => .refuse .badValue
    | some p =>
      match s.patterns.get p with
      | none => .refuse .wrongState
      | some e =>
        let stopped := ((s.setEntry p (some { e with phase := .stopped })).releasePattern p).clearPatternHoldoffs p
        match e.phase with
        | .stopped => .accept [entryStateCode (some e)] s
        | .armed => .accept [entryStateCode (some e)] stopped
        | .spent => .accept [entryStateCode (some e)] stopped
  | _ => .refuse .badLength

/-- ERASE_PATTERN at the pattern table (R21, R27). -/
def answerErasePattern (payload : List Byte) (s : State) : Answer :=
  match payload with
  | [pByte] =>
    match index? 32 pByte with
    | none => .refuse .badValue
    | some p =>
      match s.patterns.get p with
      | none => .accept (entryStateCode none :: bytes2 0) s
      | some e =>
        let erased := Answer.accept (entryStateCode (some e) :: bytes2 e.hits)
          ((s.setEntry p none).clearPatternHoldoffs p)
        match e.phase with
        | .armed => .refuse .busy
        | .stopped => erased
        | .spent => erased
  | _ => .refuse .badLength

/-- READ_PATTERN at the pattern table (R22): the count is taken into the reply before any clearing. -/
def answerReadPattern (payload : List Byte) (s : State) : Answer :=
  match payload with
  | [pByte, clearByte] =>
    match index? 32 pByte, yesNo? clearByte with
    | some p, some clear =>
      match s.patterns.get p with
      | none => .accept [entryStateCode none] s
      | some e =>
        .accept (entryStateCode (some e) :: e.definition.bytes ++ bytes2 e.hits ++ [yesNo (s.entryEffective e)])
          (if clear = true then s.setEntry p (some { e with hits := 0 }) else s)
    | _, _ => .refuse .badValue
  | _ => .refuse .badLength

/-! ### Requests on the engine -/

/-- The ids of the trackers in use from a first id on, in id order (R51). -/
def State.usedFrom (s : State) (first : TrackerId) : List TrackerId :=
  (List.finRange 24).filter fun i => decide (first.val ≤ i.val) && (s.trackers.get i).isSome

/-- One tracker in a READ_TRACKERS reply. -/
def State.trackerBytes (s : State) (i : TrackerId) : List Byte :=
  match s.trackers.get i with
  | some t => t.bytes i
  | none => []

/-- READ_TRACKERS at the engine (R51): at most six trackers, and the id of the next one in use after them. -/
def answerReadTrackers (payload : List Byte) (s : State) : Answer :=
  match payload with
  | [firstByte] =>
    match index? 24 firstByte with
    | none => .refuse .badValue
    | some first =>
      let reported := (s.usedFrom first).take 6
      let next := ((s.usedFrom first).drop 6).head?
      .accept ([byteOf (trackersInUse s.trackers), byteOf reported.length] ++ reported.flatMap s.trackerBytes ++
        optField (fun i => [indexByte i]) next) s
  | _ => .refuse .badLength

/-- The trackers in use on the sources of a set. -/
def State.trackersOn (s : State) (set : BitVec 7) : Nat :=
  s.trackers.rows.countP fun slot =>
    match slot with
    | some t => set.getLsbD t.source.val
    | none => false

/-- The running holdoff entries on the sources of a set. -/
def State.holdoffsOn (s : State) (set : BitVec 7) : Nat :=
  (s.holdoffs.rows.map fun row =>
    (List.finRange 7).countP fun src => set.getLsbD src.val && (row.get src).isSome).sum

/-- The holdoff entries of all patterns on every source of a set become clear. -/
def State.clearHoldoffsOn (s : State) (set : BitVec 7) : State :=
  { s with holdoffs := s.holdoffs.map fun row =>
      Table.tabulate fun src => if set.getLsbD src.val = true then none else row.get src }

/-- FLUSH_TRACKERS at the engine (R52, R53). -/
def answerFlushTrackers (payload : List Byte) (s : State) : Answer :=
  match payload with
  | [setByte] =>
    match sourceSet? setByte with
    | none => .refuse .badValue
    | some set =>
      .accept [byteOf (s.trackersOn set), byteOf (s.holdoffsOn set)]
        ((s.releaseTrackers fun t => set.getLsbD t.source.val).clearHoldoffsOn set)
  | _ => .refuse .badLength

end Sys2Proof.Machine
end

