-- ==== Sys2Proof/Machine/Queue.lean ====
section
/-! DEFINITION. Machine/Queue.lean: ACK_EVENTS (section 6.5) and its work in the session block (R170). -/
namespace Sys2Proof.Machine

/-- The records that an acknowledgement naming `n` removes, and those behind them: none unless the queue holds `n` and
it is SENT (R113, R114). -/
def ackSplit (n : Half) : List Record → Option (List Record × List Record)
  | [] => none
  | r :: rs =>
    if r.number = n then (if r.isSent = true then some ([r], rs) else none)
    else (ackSplit n rs).map fun x => (r :: x.1, x.2)

/-- One record leaves the queue: a LINE_ERROR clears its source's error-report flag, a TRACKER_SHORT its source's
short-report flag (R115). -/
def State.recordLeaves (s : State) (r : Record) : State :=
  match r.body with
  | .lineError i _ => { s with serials := s.serials.modify i fun c => { c with errorFlag := false } }
  | .trackerShort src _ => { s with shortFlags := s.shortFlags.set src false }
  | .started _ => s
  | .hit _ _ _ _ _ _ => s
  | .sourceState _ _ => s
  | .injectDone _ _ _ _ => s
  | .power _ => s
  | .lost _ => s

/-- Whether a LOST record enters at the end of an acknowledgement (R108). -/
def EventQueue.lostDue (q : EventQueue) : Bool :=
  decide (q.lost ≠ 0) && !q.lostPresent && decide (q.ordinaryCount < Config.ordinarySlots)

/-- The LOST record is appended when it is due, and the lost counter becomes 0 (R108). -/
def EventQueue.judgeLost (q : EventQueue) (clock : Word) : EventQueue :=
  if q.lostDue = true then { q.enter clock (.lost q.lost) with lost := 0 } else q

/-- The session block after an acknowledgement that removed records (R170): the round count becomes 0, the resend list is
emptied, and the timer starts again if SENT records remain while FLOWING, and is stopped otherwise. -/
def OpenSession.acknowledged (o : OpenSession) (sentLeft : Nat) : OpenSession :=
  { o with
    round := 0
    resend := []
    timer := if sentLeft ≠ 0 ∧ o.flow = .flowing then some o.timeout else none }

/-- ACK_EVENTS at the event queue (R113 to R116). -/
def answerAckEvents (payload : List Byte) (s : State) : Answer :=
  match payload with
  | [hi, lo] =>
    match ackSplit (join2 hi lo) s.queue.records with
    | none => .refuse .badAck
    | some (gone, rest) =>
      let cleared := gone.foldl State.recordLeaves s
      let removed : EventQueue := { s.queue with records := rest }
      let queue := removed.judgeLost s.clock
      let lostNumber := if removed.lostDue = true then some removed.nextNumber else none
      let session := { s.session with opened := s.session.opened.map fun o => o.acknowledged queue.sentCount }
      .accept ([byteOf gone.length, byteOf queue.records.length] ++ optField bytes2 lostNumber)
        { cleared with queue := queue, session := session }
  | _ => .refuse .badLength

end Sys2Proof.Machine
end

