-- ==== Sys2Proof/Machine/Sessions.lean ====
section
/-! DEFINITION. Machine/Sessions.lean: OPEN_SESSION, CLOSE_SESSION, HOLD_NOTICES, RELEASE_NOTICES and the retransmit timer
(chapter 9). -/
namespace Sys2Proof.Machine

/-- The next session number: from 255 it goes to 1 (R159). -/
def nextSession (n : Byte) : Byte := if n = 255 then 1 else n + 1

/-- A session as it is opened (R159, step 3). -/
def freshSession (window timeout : Nat) : OpenSession :=
  { window := window, timeout := timeout, flow := .flowing, timer := none, round := 0, resend := [], saved := none }

/-- OPEN_SESSION at the session block (R158, R159, R130): a session that is open is closed as REOPENED first. -/
def answerOpenSession (payload : List Byte) (s : State) : Answer :=
  match payload with
  | [window, t1, t0] =>
    let timeout := (join2 t1 t0).toNat
    if window.toNat < 1 ∨ 8 < window.toNat ∨ timeout < 20 ∨ 5000 < timeout then .refuse .badValue
    else
      let s1 := s.closeSession .reopened
      let number := nextSession s.session.number
      let s2 := { s1 with session := { s1.session with
        number := number, opened := some (freshSession window.toNat timeout) } }
      .accept ([number, window] ++ nat2 timeout ++ [s1.session.lastClose.code, byteOf s.queue.records.length])
        s2.autoClear
  | _ => .refuse .badLength

/-- CLOSE_SESSION at the session block (R160). -/
def answerCloseSession (payload : List Byte) (s : State) : Answer :=
  match payload with
  | [] => .accept [byteOf s.queue.sentCount] (s.closeSession .requested)
  | _ :: _ => .refuse .badLength

/-- The session block's own fields, while a session is open, take new values. -/
def State.updateSession (s : State) (f : OpenSession → OpenSession) : State :=
  { s with session := { s.session with opened := s.session.opened.map f } }

/-- The flow as a request finds it. -/
def State.flow (s : State) : Flow :=
  match s.session.opened with
  | some o => o.flow
  | none => .flowing

/-- HOLD_NOTICES at the session block (R165). -/
def answerHoldNotices (payload : List Byte) (s : State) : Answer :=
  match payload with
  | [] =>
    match s.flow with
    | .held => .accept [Flow.held.code] s
    | .flowing =>
      .accept [Flow.flowing.code] (s.updateSession fun o => { o with flow := .held, timer := none, resend := [] })
  | _ :: _ => .refuse .badLength

/-- RELEASE_NOTICES at the session block (R166). -/
def answerReleaseNotices (payload : List Byte) (s : State) : Answer :=
  match payload with
  | [] =>
    match s.flow with
    | .flowing => .accept [Flow.flowing.code] s
    | .held =>
      .accept [Flow.held.code] (s.updateSession fun o =>
        { o with flow := .flowing, timer := if s.queue.sentCount ≠ 0 then some o.timeout else none })
  | _ :: _ => .refuse .badLength

/-- The event numbers of the SENT records, in queue order (R168). -/
def EventQueue.sentNumbers (q : EventQueue) : List Half := (q.records.filter Record.isSent).map Record.number

/-- RETRANSMIT_EXPIRY (R168, R169): the timer stops; the round count rises and the resend list is refilled, or the session
is lost where the count would become 9. -/
def execRetransmitExpiry (s : State) : Host.Outcome State Fault Refusal :=
  match s.session.opened with
  | none => .next s
  | some o =>
    if timerDue o.timer = true then
      if Config.lastRound ≤ o.round then .next (s.closeSession .noticeTimeout)
      else
        .next (s.updateSession fun o =>
          { o with timer := none, round := o.round + 1, resend := s.queue.sentNumbers }).arbitrate
    else .next s

end Sys2Proof.Machine
end

