-- ==== Sys2Proof/Machine/Link.lean ====
section
/-! DEFINITION. Machine/Link.lean: the dispatch of a request, the frame receiver, the break, the link reset, and the end
of a transmitted frame (chapter 8). -/
namespace Sys2Proof.Machine

/-! ### Dispatch (R151, R152) -/

/-- The block that owns a request judges it and carries it out (R151, checks 6 and 7). The length of the payload is judged
first by every one of these. -/
def answerOf (k : Kind) (payload : List Byte) (s : State) : Answer :=
  match k with
  | .identify => answerIdentify payload s
  | .readStatus => answerReadStatus payload s
  | .openSession => answerOpenSession payload s
  | .closeSession => answerCloseSession payload s
  | .holdNotices => answerHoldNotices payload s
  | .releaseNotices => answerReleaseNotices payload s
  | .ackEvents => answerAckEvents payload s
  | .setClock => answerSetClock payload s
  | .restart => answerRestart payload s
  | .setSource => answerSetSource payload s
  | .readSource => answerReadSource payload s
  | .inject => answerInject payload s
  | .cancelInject => answerCancelInject payload s
  | .setContact => answerSetContact payload s
  | .readContacts => answerReadContacts payload s
  | .definePattern => answerDefinePattern payload s
  | .armPattern => answerArmPattern payload s
  | .stopPattern => answerStopPattern payload s
  | .erasePattern => answerErasePattern payload s
  | .readPattern => answerReadPattern payload s
  | .readTrackers => answerReadTrackers payload s
  | .flushTrackers => answerFlushTrackers payload s
  | .setWake => answerSetWake payload s
  | .clearWake => answerClearWake payload s
  | .readWake => answerReadWake payload s

/-- A reply that carries a status alone (R152). -/
def statusReply (seq kind : Byte) (st : Status) : Reply :=
  { seq := seq, kind := kind, payload := [st.code], restart := false }

/-- The reply to an accepted request; RESTART's carries a restart mark (R152, R179). -/
def okReply (seq : Byte) (k : Kind) (items : List Byte) : Reply :=
  { seq := seq, kind := k.code, payload := Status.ok.code :: items, restart := decide (k = .restart) }

/-- The saved reply, when the request is a repeat of the last one (R172). OPEN_SESSION is exempt. -/
def State.repeated? (s : State) (seq : Byte) (k : Kind) : Option Reply :=
  match s.session.opened with
  | none => none
  | some o =>
    match o.saved with
    | none => none
    | some r => if k ≠ .openSession ∧ r.seq = seq ∧ r.kind = k.code then some r else none

/-- Checks 6 and 7 and the reply. -/
def State.execute (s : State) (seq : Byte) (k : Kind) (payload : List Byte) : State :=
  match answerOf k payload s with
  | .refuse st => s.reply (statusReply seq k.code st)
  | .accept items s' => s'.reply (okReply seq k items)

/-- The dispatch of a good frame (R151): the checks in order, the first that applies deciding. -/
def State.dispatch (s : State) (seq kind : Byte) (payload : List Byte) : State :=
  if Config.replySlots ≤ s.link.replies.length then { s with link := s.link.countError }
  else if seq = 0 then s.reply (statusReply seq kind .badValue)
  else
    match Kind.ofByte? kind with
    | none => s.reply (statusReply seq kind .unknownRequest)
    | some k =>
      if s.session.isOpen = false ∧ k.needsSession = true then s.reply (statusReply seq kind .noSession)
      else
        match s.repeated? seq k with
        | some r => (s.enqueueReply r).arbitrate
        | none => s.execute seq k payload

/-- Whether a link reset is due: the break timer has reached 0 with the line still low (R149). -/
def State.resetDue (s : State) : Bool := timerDue s.link.breakTimer

/-- Whether the link takes no byte from HRX: it is held (R156), or its byte receiver waits for the line to be high, as after
a reset, a link reset or a framing fault (R142, R150). -/
def State.takesNoByte (s : State) : Bool := s.linkHeld || decide (s.link.byteReceiver = .waiting)

/-- Whether the link takes no good frame: as for a byte, but that a byte receiver which waits keeps no frame out at the
moment when a link reset is due, since a request and a link reset may come together and either may be taken first (R150;
assumption 8). -/
def State.takesNoFrame (s : State) : Bool := s.linkHeld || (s.takesNoByte && !s.resetDue)

/-- HRX is high at the end of a good byte: the byte receiver hunts for the next fall and no break timer runs (R142,
R149). DESIGN CHOICE (assumption 7): where a link reset is due the byte came together with it and was taken first, so the
line and the timer stay as they are, and the link reset is still to be taken (R150). -/
def State.byteEnds (s : State) : State :=
  { s with
    link := { s.link with
      byteReceiver := if s.resetDue = true then s.link.byteReceiver else .hunting
      breakTimer := if s.resetDue = true then s.link.breakTimer else none }
    pins := { s.pins with hrx := if s.resetDue = true then s.pins.hrx else .high } }

/-- The completion of a good frame (R146): the frame receiver returns to HUNTING, its timer stops, and the frame is
dispatched, all in one event. A link that takes no byte takes no frame (R142, R150, R156), but for one that comes together
with a link reset. DESIGN CHOICE (assumption 8): a command that stands for a good frame ends with the last byte of the frame,
so the line and the byte receiver are then as after any good byte: HRX HIGH, the byte receiver hunting, no break timer; where
a link reset is due they stay as they were, and the link reset, taken next, removes the reply (R150). -/
def State.goodFrame (s : State) (seq kind : Byte) (payload : List Byte) : State :=
  if s.takesNoFrame = true then s
  else
    let ended := s.byteEnds
    ({ ended with link := { ended.link with receiver := .hunting } }).dispatch seq kind payload

/-- A command that stands for a good frame; no frame carries a payload of more than 248 bytes (R143). -/
def frameCommand (seq kind : Byte) (payload : List Byte) (s : State) : Host.Outcome State Fault Refusal :=
  if payload.length ≤ 248 then .next (s.goodFrame seq kind payload) else .refused .notAFrame

/-! ### Bytes (R145, R146) -/

/-- A byte that completes a frame, or joins it (R145, R146): `got` holds the bytes from SEQ onward, this one included. -/
def State.frameByte (s : State) (len : Byte) (got : List Byte) : State :=
  if got.length = len.toNat + 2 then
    let body := got.take len.toNat
    let hunting := { s with link := { s.link with receiver := .hunting } }
    if bytes2 (checkValue (len :: body)) = got.drop len.toNat then
      match body with
      | seq :: kind :: payload => hunting.dispatch seq kind payload
      | _ => hunting
    else { hunting with link := hunting.link.countError }
  else { s with link := { s.link with receiver := .receiving (some len) got Config.interByteTime } }

/-- A good byte at the frame receiver (R145, R146). -/
def State.receiveByte (s : State) (b : Byte) : State :=
  match s.link.receiver with
  | .hunting =>
    if b = Config.syncByte then
      { s with link := { s.link with receiver := .receiving none [] Config.interByteTime } }
    else s
  | .receiving none _ _ =>
    if 2 ≤ b.toNat ∧ b.toNat ≤ 250 then
      { s with link := { s.link with receiver := .receiving (some b) [] Config.interByteTime } }
    else { s with link := s.link.dropPartial }
  | .receiving (some len) got _ => s.frameByte len (got ++ [b])

/-- LINK_BYTE (R142, R145, R146): a held link and a byte receiver that waits for a high line take no byte. -/
def execLinkByte (b : Byte) (s : State) : Host.Outcome State Fault Refusal :=
  if s.takesNoByte = true then .next s
  else .next (s.byteEnds.receiveByte b)

/-- LINK_FRAMING_FAULT (R142, R146): a frame being received is discarded, and the byte receiver waits for the line to be
high. The line is low at the stop bit, so the break timer runs (R149; assumption 7). -/
def execLinkFramingFault (s : State) : Host.Outcome State Fault Refusal :=
  if s.takesNoByte = true then .next s
  else
    .next { s with
      link := { s.link.dropPartial with
        byteReceiver := .waiting
        breakTimer := match s.link.breakTimer with
          | none => some Config.breakTime
          | some t => some t }
      pins := { s.pins with hrx := .low } }

/-- INTER_BYTE_TIMEOUT (R147): an inter-byte timer that has reached 0 discards the partial frame. -/
def execInterByteTimeout (s : State) : Host.Outcome State Fault Refusal :=
  match s.link.receiver with
  | .hunting => .next s
  | .receiving _ _ t => if timerDue (some t) = true then .next { s with link := s.link.dropPartial } else .next s

/-- HRX_LEVEL_CHANGE (R142, R149): a fall starts the break timer and, in hunting, a byte if the line is still low at the
middle of the bit time; a rise stops the timer and lets a waiting byte receiver hunt. A held link follows no level. -/
def execHrxLevelChange (level : Level) (lowAtMiddle : Bool) (s : State) : Host.Outcome State Fault Refusal :=
  if s.pins.hrx = level then .next s
  else
    let pinned := { s with pins := { s.pins with hrx := level } }
    if s.linkHeld = true then .next pinned
    else
      match level with
      | .low =>
        .next { pinned with link := { s.link with
          breakTimer := some Config.breakTime
          byteReceiver :=
            match s.link.byteReceiver with
            | .hunting => if lowAtMiddle = true then .taking else .hunting
            | .waiting => .waiting
            | .taking => .taking } }
      | .high =>
        .next { pinned with link := { s.link with
          breakTimer := none
          byteReceiver :=
            match s.link.byteReceiver with
            | .waiting => .hunting
            | .hunting => .hunting
            | .taking => .taking } }

/-- LINK_RESET (R149, R150): the break timer has reached 0 with the line still low. -/
def execLinkReset (s : State) : Host.Outcome State Fault Refusal :=
  if s.resetDue = true ∧ s.linkHeld = false then
    .next (({ s with link := s.link.cleared }).closeSession .linkReset)
  else .next s

/-! ### The transmitter -/

/-- TRANSMIT_FRAME_END (R153, R154, R180): a reply that has been sent leaves the reply queue, and one with a restart mark
brings the reset about; otherwise the next frame is chosen. An idle transmitter ends no frame. -/
def execTransmitFrameEnd (s : State) : Host.Outcome State Fault Refusal :=
  match s.link.transmitter with
  | .idle => .next s
  | .sendingNotice _ => .next ({ s with link := { s.link with transmitter := .idle } }).arbitrate
  | .sendingReply _ =>
    match s.link.replies with
    | r :: rest =>
      if r.restart = true then .next (s.startUp s.link.rate .restart)
      else .next ({ s with link := { s.link with replies := rest, transmitter := .idle } }).arbitrate
    | [] => .next ({ s with link := { s.link with transmitter := .idle } }).arbitrate

end Sys2Proof.Machine
end

