-- ==== Sys2Proof/Machine/Requests.lean ====
section
/-! DEFINITION. Machine/Requests.lean: the meanings of the commands that stand for a good frame. What each request does
at the block that owns it is its `answer…` definition; a frame that comes in byte by byte (LINK_BYTE) is dispatched by
the same operation. -/
namespace Sys2Proof.Machine

/-- IDENTIFY (R177): dispatched by R151 and carried out by `answerIdentify`. -/
def execIdentify (seq : Byte) (payload : List Byte) (s : State) : Host.Outcome State Fault Refusal :=
  frameCommand seq Kind.identify.code payload s

/-- READ_STATUS (R178): dispatched by R151 and carried out by `answerReadStatus`. -/
def execReadStatus (seq : Byte) (payload : List Byte) (s : State) : Host.Outcome State Fault Refusal :=
  frameCommand seq Kind.readStatus.code payload s

/-- OPEN_SESSION (R159): dispatched by R151 and carried out by `answerOpenSession`. -/
def execOpenSession (seq : Byte) (payload : List Byte) (s : State) : Host.Outcome State Fault Refusal :=
  frameCommand seq Kind.openSession.code payload s

/-- CLOSE_SESSION (R160): dispatched by R151 and carried out by `answerCloseSession`. -/
def execCloseSession (seq : Byte) (payload : List Byte) (s : State) : Host.Outcome State Fault Refusal :=
  frameCommand seq Kind.closeSession.code payload s

/-- HOLD_NOTICES (R165): dispatched by R151 and carried out by `answerHoldNotices`. -/
def execHoldNotices (seq : Byte) (payload : List Byte) (s : State) : Host.Outcome State Fault Refusal :=
  frameCommand seq Kind.holdNotices.code payload s

/-- RELEASE_NOTICES (R166): dispatched by R151 and carried out by `answerReleaseNotices`. -/
def execReleaseNotices (seq : Byte) (payload : List Byte) (s : State) : Host.Outcome State Fault Refusal :=
  frameCommand seq Kind.releaseNotices.code payload s

/-- ACK_EVENTS (R116): dispatched by R151 and carried out by `answerAckEvents`. -/
def execAckEvents (seq : Byte) (payload : List Byte) (s : State) : Host.Outcome State Fault Refusal :=
  frameCommand seq Kind.ackEvents.code payload s

/-- SET_CLOCK (R176): dispatched by R151 and carried out by `answerSetClock`. -/
def execSetClock (seq : Byte) (payload : List Byte) (s : State) : Host.Outcome State Fault Refusal :=
  frameCommand seq Kind.setClock.code payload s

/-- RESTART (R179): dispatched by R151 and carried out by `answerRestart`. -/
def execRestart (seq : Byte) (payload : List Byte) (s : State) : Host.Outcome State Fault Refusal :=
  frameCommand seq Kind.restart.code payload s

/-- SET_SOURCE (R63): dispatched by R151 and carried out by `answerSetSource`. -/
def execSetSource (seq : Byte) (payload : List Byte) (s : State) : Host.Outcome State Fault Refusal :=
  frameCommand seq Kind.setSource.code payload s

/-- READ_SOURCE (R72): dispatched by R151 and carried out by `answerReadSource`. -/
def execReadSource (seq : Byte) (payload : List Byte) (s : State) : Host.Outcome State Fault Refusal :=
  frameCommand seq Kind.readSource.code payload s

/-- INJECT (R91): dispatched by R151 and carried out by `answerInject`. -/
def execInject (seq : Byte) (payload : List Byte) (s : State) : Host.Outcome State Fault Refusal :=
  frameCommand seq Kind.inject.code payload s

/-- CANCEL_INJECT (R97): dispatched by R151 and carried out by `answerCancelInject`. -/
def execCancelInject (seq : Byte) (payload : List Byte) (s : State) : Host.Outcome State Fault Refusal :=
  frameCommand seq Kind.cancelInject.code payload s

/-- SET_CONTACT (R84): dispatched by R151 and carried out by `answerSetContact`. -/
def execSetContact (seq : Byte) (payload : List Byte) (s : State) : Host.Outcome State Fault Refusal :=
  frameCommand seq Kind.setContact.code payload s

/-- READ_CONTACTS (R86): dispatched by R151 and carried out by `answerReadContacts`. -/
def execReadContacts (seq : Byte) (payload : List Byte) (s : State) : Host.Outcome State Fault Refusal :=
  frameCommand seq Kind.readContacts.code payload s

/-- DEFINE_PATTERN (R18): dispatched by R151 and carried out by `answerDefinePattern`. -/
def execDefinePattern (seq : Byte) (payload : List Byte) (s : State) : Host.Outcome State Fault Refusal :=
  frameCommand seq Kind.definePattern.code payload s

/-- ARM_PATTERN (R19): dispatched by R151 and carried out by `answerArmPattern`. -/
def execArmPattern (seq : Byte) (payload : List Byte) (s : State) : Host.Outcome State Fault Refusal :=
  frameCommand seq Kind.armPattern.code payload s

/-- STOP_PATTERN (R20): dispatched by R151 and carried out by `answerStopPattern`. -/
def execStopPattern (seq : Byte) (payload : List Byte) (s : State) : Host.Outcome State Fault Refusal :=
  frameCommand seq Kind.stopPattern.code payload s

/-- ERASE_PATTERN (R21): dispatched by R151 and carried out by `answerErasePattern`. -/
def execErasePattern (seq : Byte) (payload : List Byte) (s : State) : Host.Outcome State Fault Refusal :=
  frameCommand seq Kind.erasePattern.code payload s

/-- READ_PATTERN (R22): dispatched by R151 and carried out by `answerReadPattern`. -/
def execReadPattern (seq : Byte) (payload : List Byte) (s : State) : Host.Outcome State Fault Refusal :=
  frameCommand seq Kind.readPattern.code payload s

/-- READ_TRACKERS (R51): dispatched by R151 and carried out by `answerReadTrackers`. -/
def execReadTrackers (seq : Byte) (payload : List Byte) (s : State) : Host.Outcome State Fault Refusal :=
  frameCommand seq Kind.readTrackers.code payload s

/-- FLUSH_TRACKERS (R52): dispatched by R151 and carried out by `answerFlushTrackers`. -/
def execFlushTrackers (seq : Byte) (payload : List Byte) (s : State) : Host.Outcome State Fault Refusal :=
  frameCommand seq Kind.flushTrackers.code payload s

/-- SET_WAKE (R128): dispatched by R151 and carried out by `answerSetWake`. -/
def execSetWake (seq : Byte) (payload : List Byte) (s : State) : Host.Outcome State Fault Refusal :=
  frameCommand seq Kind.setWake.code payload s

/-- CLEAR_WAKE (R129): dispatched by R151 and carried out by `answerClearWake`. -/
def execClearWake (seq : Byte) (payload : List Byte) (s : State) : Host.Outcome State Fault Refusal :=
  frameCommand seq Kind.clearWake.code payload s

/-- READ_WAKE (R131): dispatched by R151 and carried out by `answerReadWake`. -/
def execReadWake (seq : Byte) (payload : List Byte) (s : State) : Host.Outcome State Fault Refusal :=
  frameCommand seq Kind.readWake.code payload s

/-- UNKNOWN_REQUEST (R151, check 3): a good frame of any KIND; one that is no request kind is refused UNKNOWN_REQUEST. -/
def execUnknownRequest (seq kind : Byte) (payload : List Byte) (s : State) : Host.Outcome State Fault Refusal :=
  frameCommand seq kind payload s

/-- FRAME_SET_ASIDE (R151, check 1): a good frame of any KIND; one that meets four replies in the reply queue is set
aside unexecuted and counted, and one that finds a slot free is dispatched. -/
def execFrameSetAside (seq kind : Byte) (payload : List Byte) (s : State) : Host.Outcome State Fault Refusal :=
  frameCommand seq kind payload s

end Sys2Proof.Machine
end

