-- ==== Sys2Proof/Machine/Dispatch.lean ====
section
/-! DEFINITION. Machine/Dispatch.lean: one arm per command, each one direct call of its meaning. -/
namespace Sys2Proof.Machine

def exec (i : Instr) (s : State) : Host.Outcome State Fault Refusal :=
  match i with
  | .identify seq payload => Sys2Proof.Machine.execIdentify seq payload s
  | .readStatus seq payload => Sys2Proof.Machine.execReadStatus seq payload s
  | .openSession seq payload => Sys2Proof.Machine.execOpenSession seq payload s
  | .closeSession seq payload => Sys2Proof.Machine.execCloseSession seq payload s
  | .holdNotices seq payload => Sys2Proof.Machine.execHoldNotices seq payload s
  | .releaseNotices seq payload => Sys2Proof.Machine.execReleaseNotices seq payload s
  | .ackEvents seq payload => Sys2Proof.Machine.execAckEvents seq payload s
  | .setClock seq payload => Sys2Proof.Machine.execSetClock seq payload s
  | .restart seq payload => Sys2Proof.Machine.execRestart seq payload s
  | .setSource seq payload => Sys2Proof.Machine.execSetSource seq payload s
  | .readSource seq payload => Sys2Proof.Machine.execReadSource seq payload s
  | .inject seq payload => Sys2Proof.Machine.execInject seq payload s
  | .cancelInject seq payload => Sys2Proof.Machine.execCancelInject seq payload s
  | .setContact seq payload => Sys2Proof.Machine.execSetContact seq payload s
  | .readContacts seq payload => Sys2Proof.Machine.execReadContacts seq payload s
  | .definePattern seq payload => Sys2Proof.Machine.execDefinePattern seq payload s
  | .armPattern seq payload => Sys2Proof.Machine.execArmPattern seq payload s
  | .stopPattern seq payload => Sys2Proof.Machine.execStopPattern seq payload s
  | .erasePattern seq payload => Sys2Proof.Machine.execErasePattern seq payload s
  | .readPattern seq payload => Sys2Proof.Machine.execReadPattern seq payload s
  | .readTrackers seq payload => Sys2Proof.Machine.execReadTrackers seq payload s
  | .flushTrackers seq payload => Sys2Proof.Machine.execFlushTrackers seq payload s
  | .setWake seq payload => Sys2Proof.Machine.execSetWake seq payload s
  | .clearWake seq payload => Sys2Proof.Machine.execClearWake seq payload s
  | .readWake seq payload => Sys2Proof.Machine.execReadWake seq payload s
  | .unknownRequest seq kind payload => Sys2Proof.Machine.execUnknownRequest seq kind payload s
  | .frameSetAside seq kind payload => Sys2Proof.Machine.execFrameSetAside seq kind payload s
  | .linkByte value => Sys2Proof.Machine.execLinkByte value s
  | .linkFramingFault => Sys2Proof.Machine.execLinkFramingFault s
  | .interByteTimeout => Sys2Proof.Machine.execInterByteTimeout s
  | .linkReset => Sys2Proof.Machine.execLinkReset s
  | .transmitFrameEnd => Sys2Proof.Machine.execTransmitFrameEnd s
  | .retransmitExpiry => Sys2Proof.Machine.execRetransmitExpiry s
  | .serialCharacter source data parityBit stopBit => Sys2Proof.Machine.execSerialCharacter source data parityBit stopBit s
  | .settleExpiry source => Sys2Proof.Machine.execSettleExpiry source s
  | .contactPinChange contact level => Sys2Proof.Machine.execContactPinChange contact level s
  | .debounceExpiry contact => Sys2Proof.Machine.execDebounceExpiry contact s
  | .injectDelivery source => Sys2Proof.Machine.execInjectDelivery source s
  | .latchRequest output => Sys2Proof.Machine.execLatchRequest output s
  | .pulseExpiry output => Sys2Proof.Machine.execPulseExpiry output s
  | .gapDeadlineExpiry tracker => Sys2Proof.Machine.execGapDeadlineExpiry tracker s
  | .spanDeadlineExpiry tracker => Sys2Proof.Machine.execSpanDeadlineExpiry tracker s
  | .holdoffExpiry pattern source => Sys2Proof.Machine.execHoldoffExpiry pattern source s
  | .hostpwrChange level => Sys2Proof.Machine.execHostpwrChange level s
  | .qualifiedPowerChange => Sys2Proof.Machine.execQualifiedPowerChange s
  | .clockTick => Sys2Proof.Machine.execClockTick s
  | .resetAssert => Sys2Proof.Machine.execResetAssert s
  | .powerOnSequence lr1 lr0 => Sys2Proof.Machine.execPowerOnSequence lr1 lr0 s
  | .hrxLevelChange level lowAtMiddle => Sys2Proof.Machine.execHrxLevelChange level lowAtMiddle s
  | .sourceLineLevelChange source level lowAtMiddle => Sys2Proof.Machine.execSourceLineLevelChange source level lowAtMiddle s

end Sys2Proof.Machine
end

