-- ==== Sys2Proof/Safety.lean ====
section
/-! DEFINITION. Safety.lean: what the manual says is true of the part at every moment, as predicates on the state. Each is an
abbreviation of a decidable proposition. -/
namespace Sys2Proof.Machine

/-! ### Chapter 1 -/

/-- A holdoff time lies in 1 to 60000 ms (R8, R17). -/
def Policy.inRange : Policy → Bool
  | .restart => true
  | .holdoff n => decide (1 ≤ n ∧ n ≤ 60000)

/-- The field ranges of section 1.2 that DEFINE_PATTERN checks (R17). -/
abbrev Definition.Ok (d : Definition) : Prop :=
  1 ≤ d.steps.length ∧ d.steps.length ≤ 12 ∧ d.sources ≠ 0 ∧ 1 ≤ d.gapLimit ∧ d.gapLimit ≤ 60000 ∧
    (∀ n ∈ d.spanLimit, 1 ≤ n ∧ n ≤ 600000) ∧
    d.policy.inRange = true ∧
    (d.capture = true → d.report = true)

/-- Every stored definition is one that DEFINE_PATTERN accepts, and only a one-shot pattern is SPENT (R15, R17). -/
abbrev State.PatternsOk (s : State) : Prop :=
  ∀ p : PatternId, ∀ e ∈ s.patterns.get p, e.definition.Ok ∧ (e.phase = .spent → e.definition.oneShot = true)

/-! ### Chapter 2 -/

/-- What R23 says of a tracker in use: its pattern is ARMED, effective and lists its source, which is LISTENING or TEST; its
next step lies between 1 and the step count less one; its deadlines lie within the limits; its captured symbols are
one per matched step, if the pattern captures. -/
abbrev State.TrackerOk (s : State) (t : Tracker) : Prop :=
  ((s.sources.get t.source).state = .listening ∨ (s.sources.get t.source).state = .test) ∧
    ∃ d ∈ s.participant t.source t.pattern,
      1 ≤ t.next ∧ t.next < d.steps.length ∧ t.gap ≤ d.gapLimit ∧
        (t.span.isSome = d.spanLimit.isSome) ∧ (∀ n ∈ t.span, n ≤ d.spanLimit.getD 0) ∧
        t.captured.map List.length = if d.capture = true then some t.next else none

/-- The pool (R23): every tracker in use is as it must be, and no two share both pattern and source. -/
abbrev State.PoolOk (s : State) : Prop :=
  (∀ i : TrackerId, ∀ t ∈ s.trackers.get i, s.TrackerOk t) ∧
    ∀ i j : TrackerId, ∀ t ∈ s.trackers.get i, ∀ u ∈ s.trackers.get j,
      t.pattern = u.pattern → t.source = u.source → i = j

/-- The holdoff table (R15, R25): a tracker's own entry is clear, and an EMPTY or STOPPED pattern has none running. -/
abbrev State.HoldoffsOk (s : State) : Prop :=
  (∀ i : TrackerId, ∀ t ∈ s.trackers.get i, (s.holdoffs.get t.pattern).get t.source = none) ∧
    ∀ p : PatternId, (∀ e ∈ s.patterns.get p, e.phase = .stopped) → ∀ src : SourceId, (s.holdoffs.get p).get src = none

/-! ### Chapters 3 to 5 -/

/-- Whether a LIVE source is kept OFF by its supply domain and host power (R61); never SC (R83). -/
def State.lacksPower (s : State) (src : SourceId) : Bool :=
  match serialOf? src with
  | some i => decide ((s.serials.get i).line.domain = .host ∧ s.power.qualified = .absent)
  | none => false

/-- The states that a source's enable, mode, supply domain and host power allow (R61, R83). -/
def State.allowedState (s : State) (src : SourceId) : Bool :=
  let c := s.sources.get src
  match c.config.enable, c.config.mode, c.state with
  | false, _, st => decide (st = .off)
  | true, .test, st => decide (st = .test)
  | true, .live, .off => s.lacksPower src
  | true, .live, .settling n => !s.lacksPower src && decide (n ≤ c.config.settleTime)
  | true, .live, .listening => !s.lacksPower src
  | true, .live, .test => false

/-- A receiver is stopped exactly while its source is OFF or in TEST (R55). -/
abbrev State.ReceiverOk (s : State) (i : SerialId) : Prop :=
  ((s.serials.get i).receiver = .stopped) ↔
    ((s.sources.get (sourceOf i)).state = .off ∨ (s.sources.get (sourceOf i)).state = .test)

abbrev State.SourcesOk (s : State) : Prop :=
  (∀ src : SourceId, s.allowedState src = true) ∧ ∀ i : SerialId, s.ReceiverOk i

/-- A channel's debounce timer runs exactly while its pin differs from its stable level (R74, R76, R77). -/
abbrev State.ContactsOk (s : State) : Prop :=
  ∀ k : ContactId,
    let c := s.contacts.get k
    (c.config.debounce = 0 ∨ c.config.debounce = 5 ∨ c.config.debounce = 20 ∨ c.config.debounce = 50) ∧
      if s.resetHeld = true then c.timer = none
      else
        (c.timer ≠ none ↔ s.pins.contacts.get k ≠ c.stable) ∧ (c.timer ≠ none → c.config.debounce ≠ 0) ∧
          ∀ n ∈ c.timer, n ≤ c.config.debounce

/-- An injection queue (R88, R91, R92): at most 32 entries, none outside TEST; its timer runs exactly while it holds
entries; both counts are 0 between runs. -/
abbrev State.InjectorsOk (s : State) : Prop :=
  ∀ src : SourceId,
    let j := s.injectors.get src
    j.queue.length ≤ 32 ∧ (j.queue ≠ [] → (s.sources.get src).state = .test) ∧ (j.timer ≠ none ↔ j.queue ≠ []) ∧
      j.cancelled = 0 ∧ (j.queue = [] → j.delivered = 0)

/-! ### Chapter 6 -/

/-- The queue (R101, R110): at most 63 ordinary records and one LOST record, with consecutive numbers up to the next. -/
abbrev EventQueue.Ok (q : EventQueue) : Prop :=
  q.ordinaryCount ≤ 63 ∧ q.records.countP Record.isLost ≤ 1 ∧
    q.records.map Record.number =
      (List.range q.records.length).map fun i => q.nextNumber - BitVec.ofNat 16 (q.records.length - i)

/-- The marks (R163): SENT before WAITING, no more SENT than the window, and none SENT without a session. -/
abbrev State.MarksOk (s : State) : Prop :=
  s.queue.records.Pairwise (fun a b => b.isSent = true → a.isSent = true) ∧
    (s.session.opened = none → s.queue.sentCount = 0) ∧ ∀ o ∈ s.session.opened, s.queue.sentCount ≤ o.window

/-- Whether a record is a LINE_ERROR record of source `i`. -/
def Record.isLineErrorOf (i : SerialId) (r : Record) : Bool :=
  match r.body with
  | .lineError j _ => decide (j = i)
  | .started _ => false
  | .hit _ _ _ _ _ _ => false
  | .sourceState _ _ => false
  | .trackerShort _ _ => false
  | .injectDone _ _ _ _ => false
  | .power _ => false
  | .lost _ => false

/-- Whether a record is a TRACKER_SHORT record of source `src`. -/
def Record.isShortOf (src : SourceId) (r : Record) : Bool :=
  match r.body with
  | .trackerShort j _ => decide (j = src)
  | .started _ => false
  | .hit _ _ _ _ _ _ => false
  | .lineError _ _ => false
  | .sourceState _ _ => false
  | .injectDone _ _ _ _ => false
  | .power _ => false
  | .lost _ => false

/-- The report flags (R115): a source's flag is set exactly while the one record concerning it is in the queue. -/
abbrev State.FlagsOk (s : State) : Prop :=
  (∀ i : SerialId,
    s.queue.records.countP (Record.isLineErrorOf i) = if (s.serials.get i).errorFlag = true then 1 else 0) ∧
  ∀ src : SourceId, s.queue.records.countP (Record.isShortOf src) = if s.shortFlags.get src = true then 1 else 0

/-! ### Chapter 7 -/

/-- A pulse runs only at an enabled PULSE output whose gate is open and whose latch is set, within its width (R123,
R126). -/
abbrev State.WakesOk (s : State) : Prop :=
  ∀ w : OutputId,
    let x := s.wakes.get w
    x.config.width ≠ 0 ∧ ∀ n ∈ x.pulse,
      x.latch = true ∧ x.config.enable = true ∧ x.config.mode = .pulse ∧ x.config.gateOpen s.power.qualified = true ∧
        n ≤ x.config.width.toNat

/-- The qualification timer runs exactly while HOSTPWR differs from the qualified state (R136); in reset the state is
ABSENT and the timer is stopped (R135, R182). -/
abbrev State.PowerOk (s : State) : Prop :=
  if s.resetHeld = true then s.power = { qualified := .absent, timer := none }
  else (s.power.timer ≠ none ↔ powerOf s.pins.hostpwr ≠ s.power.qualified) ∧ ∀ n ∈ s.power.timer, n ≤ 10

/-! ### Chapters 8 and 9 -/

/-- The frame receiver (R145): LEN in range and bytes still to come. -/
def FrameReceiver.ok (r : FrameReceiver) : Bool :=
  match r with
  | .hunting => true
  | .receiving none got t => decide (got = [] ∧ t ≤ 20)
  | .receiving (some len) got t => decide (2 ≤ len.toNat ∧ len.toNat ≤ 250 ∧ got.length < len.toNat + 2 ∧ t ≤ 20)

/-- The reply being sent, if one is, is the head of the reply queue (R153). -/
def Link.sendsHead (l : Link) : Bool :=
  match l.transmitter with
  | .idle => true
  | .sendingReply f => decide (l.replies.head?.map Reply.frame = some f)
  | .sendingNotice _ => true

/-- The link (R145, R153, R156): at most four replies; a reply being sent is the head of the queue; while held, nothing is
received, queued or sent, and no session is open. -/
abbrev State.LinkOk (s : State) : Prop :=
  s.link.replies.length ≤ 4 ∧ s.link.receiver.ok = true ∧ s.link.sendsHead = true ∧
    (s.linkHeld = true → s.link.receiver = .hunting ∧ s.link.breakTimer = none ∧ s.link.replies = [] ∧
      s.link.transmitter = .idle ∧ s.session.opened = none)

/-- The arbiter leaves nothing waiting (R154): an idle transmitter of a link that is not held has no reply and no notice to
send. -/
abbrev State.ArbiterOk (s : State) : Prop :=
  s.linkHeld = false → s.link.transmitter = .idle → s.link.replies = [] ∧ s.chooseNotice.isNone = true

/-- The session block (R157, R165, R167, R168). -/
abbrev State.SessionOk (s : State) : Prop :=
  ∀ o ∈ s.session.opened,
    s.session.number ≠ 0 ∧ 1 ≤ o.window ∧ o.window ≤ 8 ∧ 20 ≤ o.timeout ∧ o.timeout ≤ 5000 ∧ o.round ≤ 8 ∧
      o.resend <:+ s.queue.sentNumbers ∧ (o.flow = .held → o.resend = []) ∧
      (∀ n ∈ o.timer, n ≤ o.timeout ∧ o.flow = .flowing ∧ 0 < s.queue.sentCount) ∧
      ∀ r ∈ o.saved, r.seq ≠ 0 ∧ r.restart = false ∧ r.kind ≠ Kind.openSession.code

/-- While RESET is low every block holds its POR values (R182): patterns, trackers, holdoffs, sources, injection queues, wake
outputs, the host-power monitor, session and clock those of the reset state, the event queue empty (the STARTED record
enters at the rise), each contact channel as the reset left it, and the link idle at its rate. -/
abbrev State.ResetOk (s : State) : Prop :=
  s.resetHeld = true →
    s = { State.reset with
      resetHeld := true
      contacts := s.contacts.map fun c => resetContact c.stable
      queue := { records := [], nextNumber := 0, lost := 0 }
      link := { State.reset.link with rate := s.link.rate }
      pins := s.pins
      choices := s.choices
      pending := s.pending }

/-- Everything above at once. -/
structure State.Inv (s : State) : Prop where
  patterns : s.PatternsOk
  pool : s.PoolOk
  holdoffs : s.HoldoffsOk
  sources : s.SourcesOk
  contacts : s.ContactsOk
  injectors : s.InjectorsOk
  queue : s.queue.Ok
  marks : s.MarksOk
  flags : s.FlagsOk
  wakes : s.WakesOk
  power : s.PowerOk
  link : s.LinkOk
  arbiter : s.ArbiterOk
  session : s.SessionOk
  reset : s.ResetOk

/-! ### What a command leaves behind

The relations below say what becomes of the link, the session and the marks of the event queue around the one change that
a command makes. The rest of the state is named by the statement that uses them. -/

/-- The state in which a good frame is dispatched: the frame receiver has returned to HUNTING (R146), and the line is as after
any good byte, or, where the break timer stands at 0, as it was (assumption 8). -/
def State.afterFrame (s : State) : State :=
  { s with
    link := { s.link with
      receiver := .hunting
      byteReceiver := if s.link.breakTimer = some 0 then s.link.byteReceiver else .hunting
      breakTimer := if s.link.breakTimer = some 0 then some 0 else none }
    pins := { s.pins with hrx := if s.link.breakTimer = some 0 then s.pins.hrx else .high } }

/-- `u` is `s` once a good frame is complete: the frame receiver is HUNTING (R146), and the line is left open; `s.afterFrame` is
the one of these that the model takes. -/
abbrev State.FrameDone (s u : State) : Prop :=
  u = { s with
    link := { s.link with receiver := .hunting, byteReceiver := u.link.byteReceiver, breakTimer := u.link.breakTimer }
    pins := { s.pins with hrx := u.pins.hrx } }

/-- The link takes bytes from HRX: it is not held (R156), and its byte receiver does not wait for the line to be high (R142). -/
abbrev State.TakesBytes (s : State) : Prop := s.power.qualified = .present ∧ s.link.byteReceiver ≠ .waiting

/-- The link takes a good frame: it takes bytes, or it is not held and a link reset is due, with which the frame may come
together (R150, assumption 8). -/
abbrev State.TakesFrames (s : State) : Prop :=
  s.power.qualified = .present ∧ (s.link.byteReceiver ≠ .waiting ∨ s.link.breakTimer = some 0)

/-- When a request that came in a good frame reaches the block that owns it (R151, checks 1 to 5; R142, R156): the link takes
the frame, a reply slot is free, SEQ is not 0, a session is open if the kind needs one, and the request is no repeat. -/
abbrev State.Reaches (s : State) (seq : Byte) (k : Kind) : Prop :=
  s.TakesFrames ∧ s.link.replies.length < 4 ∧ seq ≠ 0 ∧
    (k = .identify ∨ k = .readStatus ∨ k = .openSession ∨ k = .restart ∨ s.session.opened ≠ none) ∧
    (k = .openSession ∨ ∀ o ∈ s.session.opened, ∀ r ∈ o.saved, ¬(r.seq = seq ∧ r.kind = k.code))

/-- The commands of a list, one after the other; it stops at the first fault or refusal. -/
def execAll (cs : List Instr) (s : State) : Host.Outcome State Fault Refusal :=
  match cs with
  | [] => .next s
  | c :: rest =>
    match exec c s with
    | .next t => execAll rest t
    | .fault f => .fault f
    | .refused r => .refused r

/-- The two bytes of an injection entry (R185). -/
def Symbol.entryBytes : Symbol → List Byte
  | .value v => [0, v]
  | .error k => [1, k.code]

/-- How the arbiter leaves the state `s` (R154, R156): unchanged when the link is held, a frame is being sent or there is
nothing to send; else with the oldest reply begun; else with the notice that the session block chooses. -/
abbrev State.Arbitrated (s t : State) : Prop :=
  ((s.power.qualified = .absent ∨ s.link.transmitter ≠ .idle ∨ (s.link.replies = [] ∧ s.chooseNotice = none)) ∧ t = s) ∨
  (s.power.qualified = .present ∧ s.link.transmitter = .idle ∧ ∃ r rest, s.link.replies = r :: rest ∧
    t = { s with link := { s.link with transmitter := .sendingReply r.frame } }) ∨
  (s.power.qualified = .present ∧ s.link.transmitter = .idle ∧ s.link.replies = [] ∧ ∃ n s', s.chooseNotice = some (n, s') ∧
    t = { s' with link := { s.link with transmitter := .sendingNotice n.notice } })

/-- The payload lengths that a request of each kind may have (R183, R89, sections 11.2 to 11.4). DEFINE_PATTERN's depend on its
flags and its count (R16) and are said where it is. -/
def Kind.lengthFits (k : Kind) (p : List Byte) : Bool :=
  match k with
  | .identify | .readStatus | .closeSession | .holdNotices | .releaseNotices | .restart | .readContacts | .readWake =>
    decide (p.length = 0)
  | .readSource | .cancelInject | .armPattern | .stopPattern | .erasePattern | .readTrackers | .flushTrackers | .clearWake =>
    decide (p.length = 1)
  | .ackEvents | .readPattern => decide (p.length = 2)
  | .openSession => decide (p.length = 3)
  | .setClock | .setContact => decide (p.length = 4)
  | .setWake => decide (p.length = 7)
  | .setSource => decide (p.length = 12)
  | .inject =>
    let n := (p.getD 1 0).toNat
    decide (1 ≤ n ∧ n ≤ 32 ∧ p.length = 2 + 2 * n)
  | .definePattern => true

/-- Whether every field of a payload of right length is in range (R158, R62, R81, R72, R90, R97, R84, R1, R22, R51, R52, R127,
R129, R185). INJECT's entries are judged by the source's data bits (R90). DEFINE_PATTERN's fields are said where it is (R17). -/
def State.fieldsFit (s : State) (k : Kind) (p : List Byte) : Bool :=
  let at' (i : Nat) : Nat := (p.getD i 0).toNat
  let pair (i : Nat) : Nat := at' i * 256 + at' (i + 1)
  match k with
  | .identify | .readStatus | .closeSession | .holdNotices | .releaseNotices | .restart | .readContacts | .readWake
  | .ackEvents | .setClock | .definePattern => true
  | .openSession => decide (1 ≤ at' 0 ∧ at' 0 ≤ 8 ∧ 20 ≤ pair 1 ∧ pair 1 ≤ 5000)
  | .setSource =>
    decide (at' 0 ≤ 6 ∧ at' 1 ≤ 1 ∧ at' 2 ≤ 1 ∧ pair 7 ≤ 2000 ∧ at' 9 ≤ 1 ∧ pair 10 ≤ 1000 ∧
      (at' 0 < 6 → 1 ≤ at' 3 ∧ at' 3 ≤ 8 ∧ (at' 4 = 7 ∨ at' 4 = 8) ∧ 1 ≤ at' 5 ∧ at' 5 ≤ 3 ∧ 1 ≤ at' 6 ∧ at' 6 ≤ 2) ∧
      (at' 0 = 6 → at' 3 = 0 ∧ at' 4 = 0 ∧ at' 5 = 0 ∧ at' 6 = 0))
  | .readSource | .cancelInject => decide (at' 0 ≤ 6)
  | .inject =>
    decide (at' 0 ≤ 6 ∧ ∀ j, j < at' 1 →
      let type := at' (2 + 2 * j)
      let value := at' (3 + 2 * j)
      type ≤ 1 ∧ (type = 1 → 1 ≤ value ∧ value ≤ 3) ∧
        (∀ i : SerialId, i.val = at' 0 → (s.serials.get i).line.dataBits = .seven → type = 0 → value ≤ 127) ∧
        (at' 0 = 6 → type = 0 ∧ (value ≤ 7 ∨ (16 ≤ value ∧ value ≤ 23))))
  | .setContact =>
    decide (at' 0 ≤ 7 ∧ at' 1 ≤ 1 ∧ (at' 2 = 0 ∨ at' 2 = 5 ∨ at' 2 = 20 ∨ at' 2 = 50) ∧ at' 3 ≤ 3)
  | .armPattern | .stopPattern | .erasePattern => decide (at' 0 ≤ 31)
  | .readPattern => decide (at' 0 ≤ 31 ∧ at' 1 ≤ 1)
  | .readTrackers => decide (at' 0 ≤ 23)
  | .flushTrackers => decide (at' 0 ≤ 127)
  | .setWake =>
    decide (at' 0 ≤ 3 ∧ at' 1 ≤ 1 ∧ at' 2 ≤ 1 ∧ at' 3 ≤ 1 ∧ 1 ≤ at' 4 ∧ at' 5 ≤ 1 ∧ at' 6 ≤ 1)
  | .clearWake => decide (at' 0 ≤ 15)

/-- The session block once a reply has been formed (R171): while a session is OPEN the reply becomes the saved reply, without a
restart mark (R179), but for a request with SEQ 0 and for OPEN_SESSION (KIND $03). -/
def SessionBlock.saving (b : SessionBlock) (r : Reply) : SessionBlock :=
  { b with opened := b.opened.map fun o =>
      if r.seq = 0 ∨ r.kind = 0x03 then o else { o with saved := some { r with restart := false } } }

/-- How a request is answered (R152, R154, R171): `s` is the state after the request's own effect and `t` the state after the
request. The reply `r` stands at the tail of the reply queue and is the saved reply where R171 has it saved. An idle
transmitter has begun the oldest reply, or, when no reply was waiting and a notice was ready, that notice (R154 leaves open
which: assumption 4). Everything else is as in `s`, but for the model's count of open choices. -/
structure State.Answered (s t : State) (r : Reply) : Prop where
  /-- Nothing outside the link, the session, the marks and the model's counter differs. -/
  rest : t = { s with queue := t.queue, link := t.link, session := t.session, choices := t.choices }
  /-- The reply is at the tail; the receiver, the timers, the rate and the error count are as they were. -/
  link : t.link = { s.link with replies := s.link.replies ++ [r], transmitter := t.link.transmitter }
  /-- What was begun, and what the session block and the queue hold then. -/
  begun :
    (t.queue = s.queue ∧ t.session = s.session.saving r ∧
      ((s.link.transmitter ≠ .idle ∧ t.link.transmitter = s.link.transmitter) ∨
        (s.link.transmitter = .idle ∧ ∃ h rest, s.link.replies ++ [r] = h :: rest ∧
          t.link.transmitter = .sendingReply h.frame))) ∨
    (s.link.transmitter = .idle ∧ s.link.replies = [] ∧ r.kind ≠ 0x03 ∧ ∃ n s', s.chooseNotice = some (n, s') ∧
      t.queue = s'.queue ∧ t.session = s'.session.saving r ∧ t.link.transmitter = .sendingNotice n.notice)

end Sys2Proof.Machine
end

