-- ==== Sys2Proof/WellFormed.lean ====
section
/-! DEFINITION. WellFormed.lean: which commands can come from outside the part. -/
namespace Sys2Proof

/-- The SEQ, KIND and PAYLOAD of the good frame that a command stands for; none for the commands that are no frame.
The KIND codes are those of sections 11.2 to 11.4. -/
def Instr.frame? : Instr → Option (Byte × Byte × List Byte)
  | .identify q p => some (q, 0x01, p)
  | .readStatus q p => some (q, 0x02, p)
  | .openSession q p => some (q, 0x03, p)
  | .closeSession q p => some (q, 0x04, p)
  | .holdNotices q p => some (q, 0x05, p)
  | .releaseNotices q p => some (q, 0x06, p)
  | .ackEvents q p => some (q, 0x07, p)
  | .setClock q p => some (q, 0x08, p)
  | .restart q p => some (q, 0x09, p)
  | .setSource q p => some (q, 0x10, p)
  | .readSource q p => some (q, 0x11, p)
  | .inject q p => some (q, 0x12, p)
  | .cancelInject q p => some (q, 0x13, p)
  | .setContact q p => some (q, 0x14, p)
  | .readContacts q p => some (q, 0x15, p)
  | .definePattern q p => some (q, 0x20, p)
  | .armPattern q p => some (q, 0x21, p)
  | .stopPattern q p => some (q, 0x22, p)
  | .erasePattern q p => some (q, 0x23, p)
  | .readPattern q p => some (q, 0x24, p)
  | .readTrackers q p => some (q, 0x28, p)
  | .flushTrackers q p => some (q, 0x29, p)
  | .setWake q p => some (q, 0x30, p)
  | .clearWake q p => some (q, 0x31, p)
  | .readWake q p => some (q, 0x32, p)
  | .unknownRequest q k p => some (q, k, p)
  | .frameSetAside q k p => some (q, k, p)
  | .linkByte _ => none
  | .linkFramingFault => none
  | .interByteTimeout => none
  | .linkReset => none
  | .transmitFrameEnd => none
  | .retransmitExpiry => none
  | .serialCharacter _ _ _ _ => none
  | .settleExpiry _ => none
  | .contactPinChange _ _ => none
  | .debounceExpiry _ => none
  | .injectDelivery _ => none
  | .latchRequest _ => none
  | .pulseExpiry _ => none
  | .gapDeadlineExpiry _ => none
  | .spanDeadlineExpiry _ => none
  | .holdoffExpiry _ _ => none
  | .hostpwrChange _ => none
  | .qualifiedPowerChange => none
  | .clockTick => none
  | .resetAssert => none
  | .powerOnSequence _ _ => none
  | .hrxLevelChange _ _ => none
  | .sourceLineLevelChange _ _ _ => none

/-- The 25 request kinds (Message Formats, closing note). -/
def requestKinds : List Byte :=
  [0x01, 0x02, 0x03, 0x04, 0x05, 0x06, 0x07, 0x08, 0x09, 0x10, 0x11, 0x12, 0x13, 0x14, 0x15,
   0x20, 0x21, 0x22, 0x23, 0x24, 0x28, 0x29, 0x30, 0x31, 0x32]

/-- A payload that a frame can carry: LEN is 2 to 250, so PAYLOAD is 0 to 248 bytes (R143). -/
def payloadFits (payload : List Byte) : Bool := decide (payload.length ≤ 248)

/-- Check 1: the payload of a command that stands for a frame fits a frame. Check 2: an UNKNOWN_REQUEST names a
KIND that is no request kind (R151). Every other operand is in range by its type. -/
def Instr.wellFormed : Instr → Bool
  | .unknownRequest _ k p => payloadFits p && !requestKinds.contains k
  | i =>
    match i.frame? with
    | some (_, _, p) => payloadFits p
    | none => true

end Sys2Proof
end

