-- ==== Sys2Proof/Certificates/Slice0/Obligations.lean ====
section
/-! DEFINITION. Certificates/Slice0/Obligations.lean: the statements for the provers. Each docstring names the rules of the
manual that the statement formalises. -/

section

open Sys2Proof Sys2Proof.Machine

/-! ### The machine -/

/-- A step takes the command at the front of the queue; on an empty queue the part idles. The queue and the idling are the
model's form (assumption 3). -/
def Obligations.StepTakesFront : Prop :=
  ∀ (s : State) (c : Instr) (rest : List Instr),
    step { s with pending := c :: rest } = exec c { s with pending := rest } ∧
      step { s with pending := [] } = .next { s with pending := [] }

/-- What the reset state holds: the values that R1, R23, R25, R50, R54, R61, R81, R74, R88, R100, R119, R122, R135, R142, R145,
R149, R153, R154, R157, R174, R175 and R182 state for POR, the link error count of R148 among them. That the pins rest as they
do (HOSTPWR LOW, contacts HIGH) is the model's choice (assumption 1), and so the rate, which the straps give, is left out. -/
def Obligations.ResetValues : Prop :=
  (∀ p, State.reset.patterns.get p = none) ∧ (∀ i, State.reset.trackers.get i = none) ∧
  (∀ p src, (State.reset.holdoffs.get p).get src = none) ∧ (∀ src, State.reset.shortFlags.get src = false) ∧
  (∀ src, State.reset.sources.get src =
    { config := { enable := false, mode := .live, settleTime := 50, reporting := true, spacing := 100 }, state := .off,
      received := 0 }) ∧
  (∀ i, State.reset.serials.get i =
    { line := { rate := .r9600, dataBits := .eight, parity := .none, domain := .standby }, errors := 0, errorFlag := false,
      receiver := .stopped }) ∧
  (∀ k, State.reset.contacts.get k =
    { config := { polarity := .activeLow, debounce := 20, selection := .press }, stable := State.reset.pins.contacts.get k,
      timer := none }) ∧
  (∀ src, State.reset.injectors.get src = { queue := [], delivered := 0, cancelled := 0, timer := none }) ∧
  State.reset.queue =
    { records := [{ number := 0, timestamp := 0, mark := .waiting, body := .started .powerOn }], nextNumber := 1,
      lost := 0 } ∧
  (∀ w, State.reset.wakes.get w =
    { config := { enable := false, mode := .level, polarity := .activeHigh, width := 10, gate := .any, autoClear := false },
      latch := false, pulse := none } ∧ State.reset.wakePin w = .low) ∧
  State.reset.power.qualified = .absent ∧ (State.reset.pins.hostpwr = .low ∧ State.reset.power.timer = none) ∧
  State.reset.link =
    { rate := State.reset.link.rate, byteReceiver := .waiting, receiver := .hunting, breakTimer := none, replies := [],
      transmitter := .idle, errors := 0 } ∧
  State.reset.session = { number := 0, opened := none, lastClose := .none } ∧ State.reset.clock = 0 ∧ State.reset.attn = .low

/-- The reset state meets every invariant of Safety.lean. -/
def Obligations.ResetMeetsInvariants : Prop := State.reset.Inv

/-! ### The host link (chapter 8) -/

/-- R144: the register starts at $FFFF, takes each byte into its upper eight bits and is shifted eight times, $1021 joining
after each lost 1; the nine characters "123456789" give $29B1. R143, R163, R183, R184 and section 11.5: the frames that the
part sends, byte by byte: a reply under the SEQ and KIND of its request, and a notice with SEQ 0, KIND $80 and the record. -/
def Obligations.CheckAndFrames : Prop :=
  checkValue [] = 0xFFFF ∧
  (∀ (bs : List Byte) (b : Byte), checkValue (bs ++ [b]) =
    Nat.repeat (fun r : Half => if r.getLsbD 15 = true then (r <<< 1) ^^^ 0x1021 else r <<< 1) 8
      (checkValue bs ^^^ (b.setWidth 16 <<< 8))) ∧
  checkValue [0x31, 0x32, 0x33, 0x34, 0x35, 0x36, 0x37, 0x38, 0x39] = 0x29B1 ∧
  let two (n : Nat) : List Byte := [BitVec.ofNat 8 (n / 0x100), BitVec.ofNat 8 n]
  let four (n : Nat) : List Byte := two (n / 0x10000) ++ two n
  let frame (seq kind : Byte) (payload : List Byte) : List Byte :=
    let body := BitVec.ofNat 8 (payload.length + 2) :: seq :: kind :: payload
    0xA7 :: body ++ two (checkValue body).toNat
  (∀ r : Reply, r.frame = frame r.seq r.kind r.payload) ∧
  ∀ r : Record, r.notice = frame 0x00 0x80 (two r.number.toNat ++
    match r.body with
    | .started cause => 0x01 :: four r.timestamp.toNat ++ [match cause with
        | .powerOn => 0x01
        | .restart => 0x02]
    | .hit p label src count start capture =>
      0x02 :: four r.timestamp.toNat ++ [BitVec.ofNat 8 p.val] ++ two label.toNat ++
        [BitVec.ofNat 8 src.val, BitVec.ofNat 8 count] ++ four start.toNat ++
        (match capture with
          | some vs => BitVec.ofNat 8 vs.length :: vs
          | none => [0x00])
    | .lineError src kind => 0x03 :: four r.timestamp.toNat ++ [BitVec.ofNat 8 src.val, match kind with
        | .framing => 0x01
        | .parity => 0x02
        | .lineBreak => 0x03]
    | .sourceState src change => 0x04 :: four r.timestamp.toNat ++ BitVec.ofNat 8 src.val :: (match change with
        | .listeningSettled => [0x02, 0x01]
        | .offHostPower => [0x00, 0x02])
    | .trackerShort src p => 0x05 :: four r.timestamp.toNat ++ [BitVec.ofNat 8 src.val, BitVec.ofNat 8 p.val]
    | .injectDone src delivered cancelled reason =>
      0x06 :: four r.timestamp.toNat ++ BitVec.ofNat 8 src.val :: two delivered.toNat ++ two cancelled.toNat ++
        [match reason with
          | .emptied => 0x01
          | .cancelled => 0x02
          | .sourceOff => 0x03]
    | .power state => 0x07 :: four r.timestamp.toNat ++ [match state with
        | .absent => 0x00
        | .present => 0x01]
    | .lost count => 0x08 :: four r.timestamp.toNat ++ two count.toNat)

/-- R143, R145, R146, R148: a good frame that comes in byte by byte, SYNC first, brings about exactly what the command that
stands for the frame does, payload, SEQ and KIND at any value; a frame whose CHECK differs is discarded and counted, and does
nothing else. That such a command stands for the completion of a good frame, with the line as after any good byte, is the
model's choice (assumptions 7 and 8). -/
def Obligations.FrameByBytes : Prop :=
  ∀ (s : State) (q k : Byte) (p : List Byte), p.length ≤ 248 → s.TakesBytes → s.link.receiver = .hunting →
    let body := byteOf (p.length + 2) :: q :: k :: p
    (∀ i : Instr, i.frame? = some (q, k, p) →
      execAll ((0xA7 :: body ++ bytes2 (checkValue body)).map Instr.linkByte) s = exec i s) ∧
    (∀ c d : Byte, [c, d] ≠ bytes2 (checkValue body) →
      execAll ((0xA7 :: body ++ [c, d]).map Instr.linkByte) s =
        .next { s.afterFrame with link := { s.afterFrame.link with errors := countUp s.link.errors } })

/-- R142, R145, R146, R147, R149: one good byte at the frame receiver. In HUNTING only $A7 begins a frame; LEN outside 2 to 250
discards the frame and counts it; any other byte joins the frame, and each starts the inter-byte timer at 20 ms. That a good
byte leaves HRX HIGH, no break timer and the byte receiver hunting (`heard`), but the line as it was where a link reset is due,
is the model's choice (assumption 7). -/
def Obligations.ReceiverBytes : Prop :=
  ∀ (s : State) (b : Byte), s.power.qualified = .present → s.link.byteReceiver ≠ .waiting →
    let heard : State := if s.link.breakTimer = some 0 then s else { s with
      link := { s.link with byteReceiver := .hunting, breakTimer := none }, pins := { s.pins with hrx := .high } }
    (s.link.receiver = .hunting → b ≠ 0xA7 → exec (.linkByte b) s = .next heard) ∧
    (s.link.receiver = .hunting → b = 0xA7 → exec (.linkByte b) s =
      .next { heard with link := { heard.link with receiver := .receiving none [] 20 } }) ∧
    (∀ got t, s.link.receiver = .receiving none got t → 2 ≤ b.toNat → b.toNat ≤ 250 → exec (.linkByte b) s =
      .next { heard with link := { heard.link with receiver := .receiving (some b) [] 20 } }) ∧
    (∀ got t, s.link.receiver = .receiving none got t → (b.toNat < 2 ∨ 250 < b.toNat) → exec (.linkByte b) s =
      .next { heard with link := { heard.link with receiver := .hunting, errors := countUp s.link.errors } }) ∧
    (∀ len got t, s.link.receiver = .receiving (some len) got t → got.length + 1 < len.toNat + 2 → exec (.linkByte b) s =
      .next { heard with link := { heard.link with receiver := .receiving (some len) (got ++ [b]) 20 } })

/-- R142, R146, R147, R148: a framing fault and the expiry of the inter-byte timer end a frame being received, which is
counted; a framing fault in HUNTING is not counted. After a fault the byte receiver waits for the line to be high. That the
break timer runs from the fault on where no fall was told before is the model's choice (assumption 7), and so it is that an
INTER_BYTE_TIMEOUT command does nothing while the timer has time to go (assumption 2). -/
def Obligations.ReceiverAborts : Prop :=
  ∀ (s : State),
    (s.power.qualified = .present → s.link.byteReceiver ≠ .waiting →
      exec .linkFramingFault s = .next { s with
        link := { s.link with
          receiver := .hunting
          errors := if s.link.receiver = .hunting then s.link.errors else countUp s.link.errors
          byteReceiver := .waiting
          breakTimer := if s.link.breakTimer = none then some 5 else s.link.breakTimer }
        pins := { s.pins with hrx := .low } }) ∧
    (∀ len got, s.link.receiver = .receiving len got 0 →
      exec .interByteTimeout s =
        .next { s with link := { s.link with receiver := .hunting, errors := countUp s.link.errors } }) ∧
    (∀ len got n, s.link.receiver = .receiving len got (n + 1) → exec .interByteTimeout s = .next s)

/-- R142, R149, R150, R156: the levels of HRX and the break. A fall starts the break timer at 5 ms, and begins a byte where the
receiver hunts and the line is still low at the middle of the bit time; a rise stops the timer and ends the wait for a high
line; a held link follows no level. The timer's expiry takes a link reset: a partial frame is discarded and counted, the reply
queue is emptied, a frame being sent is abandoned, an open session closes with reason LINK_RESET; nothing else changes. That a
LINK_RESET command does nothing while the timer has time to go is the model's choice (assumption 2), and so are the operand that
tells of the middle of the bit time (assumption 14) and the transmitter's going idle within the reset, where R155 lets the byte
in progress be finished first (assumption 10). A request and a link reset that come together are taken in either order: a
request taken first leaves the link reset due, which then removes its reply and closes the session; a request that comes after
the link reset is not executed. That a whole frame may so come while the byte receiver waits is the model's choice (assumption
8). -/
def Obligations.BreakAndLinkReset : Prop :=
  ∀ (s : State) (mid : Bool),
    (s.power.qualified = .present → s.pins.hrx = .high → exec (.hrxLevelChange .low mid) s = .next { s with
      pins := { s.pins with hrx := .low }
      link := { s.link with
        breakTimer := some 5
        byteReceiver := if s.link.byteReceiver = .hunting ∧ mid = true then .taking else s.link.byteReceiver } }) ∧
    (s.power.qualified = .present → s.pins.hrx = .low → exec (.hrxLevelChange .high mid) s = .next { s with
      pins := { s.pins with hrx := .high }
      link := { s.link with
        breakTimer := none
        byteReceiver := if s.link.byteReceiver = .waiting then .hunting else s.link.byteReceiver } }) ∧
    (∀ l, s.power.qualified = .absent → exec (.hrxLevelChange l mid) s = .next { s with pins := { s.pins with hrx := l } }) ∧
    (s.power.qualified = .present → s.link.breakTimer = some 0 → exec .linkReset s = .next { s with
      link := { s.link with
        receiver := .hunting
        errors := if s.link.receiver = .hunting then s.link.errors else countUp s.link.errors
        byteReceiver := .waiting
        breakTimer := none
        replies := []
        transmitter := .idle }
      queue := if s.session.opened = none then s.queue else s.queue.allWaiting
      session :=
        if s.session.opened = none then s.session else { s.session with opened := none, lastClose := .linkReset } }) ∧
    (s.link.breakTimer ≠ some 0 → exec .linkReset s = .next s) ∧
    (∀ (i : Instr) (q k : Byte) (p : List Byte), i.frame? = some (q, k, p) → p.length ≤ 248 →
      s.power.qualified = .present → s.link.breakTimer = some 0 →
      (∃ u t, exec i s = .next u ∧ u.link.breakTimer = some 0 ∧ exec .linkReset u = .next t ∧
        t = { u with link := t.link, queue := t.queue, session := t.session } ∧
        t.link.replies = [] ∧ t.link.transmitter = .idle ∧ t.link.byteReceiver = .waiting ∧ t.session.opened = none ∧
        (u.session.opened ≠ none → t.session.lastClose = .linkReset ∧ t.queue = u.queue.allWaiting)) ∧
      (∃ t, exec .linkReset s = .next t ∧ exec i t = .next t))

/-- R142, R150, R156: a link that is held, or whose byte receiver waits for the line to be high, takes neither a byte nor a
frame, but for a frame that comes together with a link reset that is due. R151, check 1: a good frame that meets four replies in
the reply queue, whatever its SEQ and KIND, is set aside: the link error count rises, and the frame receiver is HUNTING; it is
the effect of FRAME_SET_ASIDE. Checks 2 to 4: SEQ 0 is refused BAD_VALUE, then a KIND that is no request kind UNKNOWN_REQUEST,
the effect of UNKNOWN_REQUEST, then a request that needs a session, with none open, NO_SESSION. Nothing else changes, but that
the reply is saved as R171 has it. All 27 commands that stand for a frame. What they leave of the line, and when they are taken
while the byte receiver waits, is the model's choice (assumption 8). -/
def Obligations.DispatchChecks : Prop :=
  ∀ (s : State) (i : Instr) (q k : Byte) (p : List Byte), i.frame? = some (q, k, p) → p.length ≤ 248 →
    (¬s.TakesBytes → ∀ b, exec (.linkByte b) s = .next s) ∧
    (¬s.TakesFrames → exec i s = .next s) ∧
    (s.TakesFrames → 4 ≤ s.link.replies.length →
      exec i s = .next { s.afterFrame with link := { s.afterFrame.link with errors := countUp s.link.errors } }) ∧
    (s.TakesFrames → s.link.replies.length < 4 →
      (q = 0 → ∃ t, exec i s = .next t ∧
        s.afterFrame.Answered t { seq := q, kind := k, payload := [0x03], restart := false }) ∧
      (q ≠ 0 → requestKinds.contains k = false → ∃ t, exec i s = .next t ∧
        s.afterFrame.Answered t { seq := q, kind := k, payload := [0x01], restart := false }) ∧
      (q ≠ 0 → requestKinds.contains k = true → k ∉ [0x01, 0x02, 0x03, 0x09] → s.session.opened = none →
        ∃ t, exec i s = .next t ∧ s.afterFrame.Answered t { seq := q, kind := k, payload := [0x04], restart := false }))

/-- R151, check 6, with R183, R184 and R89: a request whose payload has not a length that its kind allows is refused BAD_LENGTH.
R158, R62, R81, R72, R90, R97, R84, R1, R22, R51, R52, R127, R129 and R185: one of right length with a field out of range is
refused BAD_VALUE, whatever the state of what it names. Any other is answered with neither. Every kind but DEFINE_PATTERN,
whose lengths and fields are `Obligations.DefinitionChecks`. How the frame leaves the line is the model's choice (assumption
8). -/
def Obligations.PayloadChecks : Prop :=
  ∀ (s : State) (i : Instr) (q : Byte) (k : Kind) (p : List Byte), i.frame? = some (q, k.code, p) → p.length ≤ 248 →
    s.Reaches q k → k ≠ .definePattern →
    (k.lengthFits p = false → ∃ t, exec i s = .next t ∧
      s.afterFrame.Answered t { seq := q, kind := k.code, payload := [0x02], restart := false }) ∧
    (k.lengthFits p = true → s.fieldsFit k p = false → ∃ t, exec i s = .next t ∧
      s.afterFrame.Answered t { seq := q, kind := k.code, payload := [0x03], restart := false }) ∧
    (k.lengthFits p = true → s.fieldsFit k p = true → ∃ t r status items, exec i s = .next t ∧
      t.link.replies = s.link.replies ++ [r] ∧ r.payload = status :: items ∧ status ≠ 0x02 ∧ status ≠ 0x03)

/-- R172, R173: a request whose SEQ and KIND equal those of the last request is answered with the saved reply, whatever its
payload; it is not executed and the saved reply stays. How the frame leaves the line is the model's choice (assumption 8). -/
def Obligations.RepeatAnswered : Prop :=
  ∀ (s : State) (i : Instr) (q k : Byte) (p : List Byte) (o : OpenSession) (r : Reply), i.frame? = some (q, k, p) →
    p.length ≤ 248 → s.TakesFrames → s.link.replies.length < 4 → q ≠ 0 → requestKinds.contains k = true →
    k ≠ 0x03 → s.session.opened = some o → o.saved = some r → r.seq = q → r.kind = k →
    ∃ t, exec i s = .next t ∧
      State.Arbitrated { s.afterFrame with link := { s.afterFrame.link with replies := s.link.replies ++ [r] } } t

/-- R151, R152: every good frame that finds a slot is answered with exactly one reply, with the request's SEQ and KIND. Unless
it is a repeat, a reply whose status is not OK carries the status byte alone, and nothing outside the link and the session
changed. All 27 commands that stand for a frame. How the frame leaves the line is the model's choice (assumption 8). -/
def Obligations.OneReply : Prop :=
  ∀ (s : State) (i : Instr) (q k : Byte) (p : List Byte), i.frame? = some (q, k, p) → p.length ≤ 248 →
    s.TakesFrames → s.link.replies.length < 4 →
    ∃ t r, exec i s = .next t ∧ t.link.replies = s.link.replies ++ [r] ∧ r.seq = q ∧ r.kind = k ∧
      t.pins = s.afterFrame.pins ∧ t.link.byteReceiver = s.afterFrame.link.byteReceiver ∧
      t.link.breakTimer = s.afterFrame.link.breakTimer ∧
      ((∃ o, s.session.opened = some o ∧ o.saved = some r) ∨
        ∃ status items, r.payload = status :: items ∧
          (status ≠ 0x00 → items = [] ∧ s.afterFrame.Answered t r))

/-! ### Identity, status, clock, restart (chapter 10) -/

/-- R177: IDENTIFY, in every state that it reaches its block in, is answered with OK and the same fixed identity, and changes
nothing. What the frame leaves of the line is not said here. -/
def Obligations.Identify : Prop :=
  ∀ (s : State) (q : Byte), s.Reaches q .identify → ∃ t u, exec (.identify q []) s = .next t ∧ s.FrameDone u ∧
    u.Answered t
      { seq := q, kind := 0x01, restart := false
        payload := [0x00, 0x03, 0xA1, 0x07, 0x16, 0x42, 32, 12, 24, 64, 7, 8, 4, 32, 8] }

/-- R178, R121: READ_STATUS reports the session, the event queue, the trackers in use, host power, the seven sources, the link
error count and the clock as they stand, and changes nothing. R121, R174, R182: pin ATTN is LOW exactly while no session is
open, the queue holds a record and RESET is high. How the frame leaves the line is the model's choice (assumption 8). -/
def Obligations.StatusAndAttn : Prop :=
  (∀ s : State, s.attn = .low ↔ s.session.opened = none ∧ s.queue.records ≠ [] ∧ s.resetHeld = false) ∧
  ∀ (s : State) (q : Byte), s.Reaches q .readStatus → ∃ t, exec (.readStatus q []) s = .next t ∧
    s.afterFrame.Answered t
      { seq := q, kind := 0x02, restart := false
        payload :=
          [0x00, if s.session.opened.isSome = true then 1 else 0, s.session.number] ++
            (match s.session.opened with
              | some o => [1, o.flow.code]
              | none => [0]) ++
            [s.session.lastClose.code, byteOf (s.queue.records.countP fun r => !r.isLost),
              if s.queue.records.any Record.isLost = true then 1 else 0,
              byteOf (s.queue.records.countP fun r => decide (r.mark = .waiting)),
              byteOf (s.queue.records.countP fun r => decide (r.mark = .sent))] ++
            bytes2 s.queue.lost ++ [byteOf (s.trackers.rows.countP Option.isSome), s.power.qualified.code] ++
            s.sources.rows.map (fun c => c.state.code) ++ bytes2 s.link.errors ++ bytes4 s.clock }

/-- R176: SET_CLOCK loads the clock, answers the reading before the load, and changes no other state. How the frame leaves the
line is the model's choice (assumption 8). -/
def Obligations.SetClock : Prop :=
  ∀ (s : State) (q a b c d : Byte), s.Reaches q .setClock → ∃ t, exec (.setClock q [a, b, c, d]) s = .next t ∧
    State.Answered { s.afterFrame with clock := a ++ b ++ (c ++ d) } t
      { seq := q, kind := 0x08, payload := 0x00 :: bytes4 s.clock, restart := false }

/-- R179: RESTART is answered with OK alone, its reply carries the restart mark, and nothing else changes at the request. How the
frame leaves the line is the model's choice (assumption 8). -/
def Obligations.RestartRequest : Prop :=
  ∀ (s : State) (q : Byte), s.Reaches q .restart → ∃ t, exec (.restart q []) s = .next t ∧
    s.afterFrame.Answered t { seq := q, kind := 0x09, payload := [0x00], restart := true }

/-- R153, R154, R180: the end of a transmitted frame. A notice that has been sent, and a reply that has been sent and so leaves
the queue, hand the line to the arbiter; a reply with a restart mark brings the reset about: every block takes its POR
values, the rate is kept, STARTED (RESTART) enters as number 0 at timestamp 0, and qualification begins. -/
def Obligations.TransmitFrameEnd : Prop :=
  ∀ (s : State),
    (∀ f, s.link.transmitter = .sendingNotice f → ∃ t, exec .transmitFrameEnd s = .next t ∧
      State.Arbitrated { s with link := { s.link with transmitter := .idle } } t) ∧
    (∀ f r rest, s.link.transmitter = .sendingReply f → s.link.replies = r :: rest → r.restart = false →
      ∃ t, exec .transmitFrameEnd s = .next t ∧
        State.Arbitrated { s with link := { s.link with replies := rest, transmitter := .idle } } t) ∧
    (∀ f r rest, s.link.transmitter = .sendingReply f → s.link.replies = r :: rest → r.restart = true →
      exec .transmitFrameEnd s = .next { State.reset with
        contacts := s.pins.contacts.map resetContact
        queue :=
          { records := [{ number := 0, timestamp := 0, mark := .waiting, body := .started .restart }], nextNumber := 1,
            lost := 0 }
        power := { qualified := .absent, timer := if s.pins.hostpwr = .high then some 10 else none }
        link := { State.reset.link with rate := s.link.rate }
        pins := s.pins
        choices := s.choices
        pending := s.pending })

/-- R175, R26, R44, R45, R66, R76, R92, R126, R136, R147, R149, R167: one millisecond. The clock rises, wrapping, and every
running timer has 1 ms less to go; while RESET is low nothing happens (R182). That the timers count in whole milliseconds with
the clock is the model's choice (assumption 2). -/
def Obligations.ClockTick : Prop :=
  ∀ (s : State),
    (s.resetHeld = true → exec .clockTick s = .next s) ∧
    (s.resetHeld = false → exec .clockTick s = .next { s with
      clock := s.clock + 1
      trackers := s.trackers.map fun slot => slot.map fun t => { t with gap := t.gap - 1, span := t.span.map (· - 1) }
      holdoffs := s.holdoffs.map fun row => row.map fun t => t.map (· - 1)
      sources := s.sources.map fun c => { c with state :=
        match c.state with
        | .settling n => .settling (n - 1)
        | st => st }
      contacts := s.contacts.map fun c => { c with timer := c.timer.map (· - 1) }
      injectors := s.injectors.map fun j => { j with timer := j.timer.map (· - 1) }
      wakes := s.wakes.map fun w => { w with pulse := w.pulse.map (· - 1) }
      power := { s.power with timer := s.power.timer.map (· - 1) }
      link := { s.link with
        receiver :=
          match s.link.receiver with
          | .hunting => .hunting
          | .receiving len got t => .receiving len got (t - 1)
        breakTimer := s.link.breakTimer.map (· - 1) }
      session := { s.session with opened := s.session.opened.map fun o => { o with timer := o.timer.map (· - 1) } } })

/-- R182: the fall of RESET leaves every block at its POR values and the queue empty; the rise (or that of the supply) samples the
straps, takes POR values, enters STARTED (POWER_ON) as number 0 at timestamp 0, and begins qualification (R135, R141). That a
contact's stable level is also taken at the fall is the model's choice (assumption 11). -/
def Obligations.ResetSequence : Prop :=
  ∀ (s : State) (lr1 lr0 : Level),
    exec .resetAssert s = .next { State.reset with
      contacts := s.pins.contacts.map resetContact
      queue := { records := [], nextNumber := 0, lost := 0 }
      link := { State.reset.link with rate := s.link.rate }
      resetHeld := true
      pins := s.pins
      choices := s.choices
      pending := s.pending } ∧
    exec (.powerOnSequence lr1 lr0) s = .next { State.reset with
      contacts := s.pins.contacts.map resetContact
      power := { qualified := .absent, timer := if s.pins.hostpwr = .high then some 10 else none }
      link := { State.reset.link with rate :=
        match lr1, lr0 with
        | .low, .low => .r9600
        | .low, .high => .r38400
        | .high, .low => .r115200
        | .high, .high => .r460800 }
      pins := { s.pins with lr1 := lr1, lr0 := lr0 }
      choices := s.choices
      pending := s.pending }

/-! ### Sessions (chapter 9) -/

/-- R159, R161, R130: an accepted OPEN_SESSION closes an open session as REOPENED, takes the next number (1 after 255), opens with
the window and timeout given, clears the latches of auto-clear outputs, and is answered before any notice. How the frame
leaves the line is the model's choice (assumption 8). -/
def Obligations.OpenSessionRequest : Prop :=
  ∀ (s : State) (q w t1 t0 : Byte), s.Reaches q .openSession → 1 ≤ w.toNat → w.toNat ≤ 8 → 20 ≤ (t1 ++ t0).toNat →
    (t1 ++ t0).toNat ≤ 5000 →
    ∃ t, exec (.openSession q [w, t1, t0]) s = .next t ∧
      State.Answered
        { s.afterFrame with
          queue := if s.session.opened = none then s.queue else s.queue.allWaiting
          session :=
            { number := if s.session.number = 255 then 1 else s.session.number + 1
              opened := some
                { window := w.toNat, timeout := (t1 ++ t0).toNat, flow := .flowing, timer := none, round := 0, resend := [],
                  saved := none }
              lastClose := if s.session.opened = none then s.session.lastClose else .reopened }
          wakes := s.wakes.map fun x => if x.config.autoClear = true then { x with latch := false, pulse := none } else x }
        t
        { seq := q, kind := 0x03, restart := false
          payload := [0x00, if s.session.number = 255 then 1 else s.session.number + 1, w, t1, t0,
            if s.session.opened = none then s.session.lastClose.code else 0x02, byteOf s.queue.records.length] }

/-- R160, R161, R165, R166: CLOSE_SESSION closes the session as REQUESTED and reports how many records turned from SENT to
WAITING; HOLD_NOTICES and RELEASE_NOTICES, in each flow. How the frame leaves the line is the model's choice (assumption 8). -/
def Obligations.SessionRequests : Prop :=
  ∀ (s : State) (q : Byte) (o : OpenSession), s.session.opened = some o →
    (s.Reaches q .closeSession → ∃ t, exec (.closeSession q []) s = .next t ∧
      State.Answered
        { s.afterFrame with
          queue := s.queue.allWaiting, session := { s.session with opened := none, lastClose := .requested } }
        t
        { seq := q, kind := 0x04, restart := false
          payload := [0x00, byteOf (s.queue.records.countP fun r => decide (r.mark = .sent))] }) ∧
    (s.Reaches q .holdNotices → ∃ t, exec (.holdNotices q []) s = .next t ∧
      State.Answered
        { s.afterFrame with session := { s.session with opened :=
          (if o.flow = .held then some o else some { o with flow := .held, timer := none, resend := [] }) } }
        t { seq := q, kind := 0x05, payload := [0x00, o.flow.code], restart := false }) ∧
    (s.Reaches q .releaseNotices → ∃ t, exec (.releaseNotices q []) s = .next t ∧
      State.Answered
        { s.afterFrame with session := { s.session with opened :=
          (if o.flow = .flowing then some o
          else some { o with
            flow := .flowing
            timer := if (∃ r ∈ s.queue.records, r.mark = .sent) then some o.timeout else none }) } }
        t { seq := q, kind := 0x06, payload := [0x00, o.flow.code], restart := false })

/-- R168, R169: the expiry of the retransmit timer raises the round count and fills the resend list with every SENT record's
number in queue order, or, where the count would become 9, closes the session with reason NOTICE_TIMEOUT. -/
def Obligations.RetransmitExpiry : Prop :=
  ∀ (s : State) (o : OpenSession), s.session.opened = some o → o.timer = some 0 →
    (o.round < 8 → ∃ t, exec .retransmitExpiry s = .next t ∧
      State.Arbitrated
        { s with session := { s.session with opened := some { o with
          timer := none
          round := o.round + 1
          resend := (s.queue.records.filter fun r => decide (r.mark = .sent)).map Record.number } } } t) ∧
    (8 ≤ o.round → exec .retransmitExpiry s = .next { s with
      queue := s.queue.allWaiting, session := { s.session with opened := none, lastClose := .noticeTimeout } })

/-- R163, R167: the session block has a notice to send from the resend list, or, while FLOWING with room in the window, the oldest
WAITING record, which becomes SENT; the retransmit timer starts if it is stopped. The record is the one whose number heads the
resend list, or else the first in the queue that is WAITING. In a state that meets the invariants of the queue, the marks and
the session, it has none otherwise. -/
def Obligations.NoticeChoice : Prop :=
  ∀ (s : State), s.queue.Ok → s.MarksOk → s.SessionOk →
    (s.chooseNotice.isSome = true ↔ ∃ o, s.session.opened = some o ∧
      (o.resend ≠ [] ∨ (o.flow = .flowing ∧ (∃ r ∈ s.queue.records, r.mark = .waiting) ∧
        s.queue.records.countP (fun r => decide (r.mark = .sent)) < o.window))) ∧
    ∀ r s', s.chooseNotice = some (r, s') → ∃ o before rest, s.session.opened = some o ∧
      s.queue.records = before ++ r :: rest ∧
      (o.resend ≠ [] → o.resend.head? = some r.number ∧ r.mark = .sent) ∧
      (o.resend = [] → r.mark = .waiting ∧ ∀ x ∈ before, x.mark ≠ .waiting) ∧ s' = { s with
      queue := { s.queue with records :=
        if o.resend = [] then s.queue.records.map fun x => if x = r then { x with mark := .sent } else x
        else s.queue.records }
      session := { s.session with opened := some { o with
        resend := o.resend.tail
        timer := if o.timer = none then some o.timeout else o.timer } } }

/-! ### The event queue (chapter 6) -/

/-- R113, R114, R115, R116, R108, R170: ACK_EVENTS. Where a record that is SENT carries the number named, it and every record
before it leave; their report flags clear; a LOST record enters where one is due; the round count and the resend list are
cleared and the timer restarts or stops. Where none that is SENT carries it, the request is refused BAD_ACK. How the frame
leaves the line is the model's choice (assumption 8). -/
def Obligations.AckEvents : Prop :=
  ∀ (s : State) (q hi lo : Byte), s.Reaches q .ackEvents →
    (∀ before r rest, s.queue.records = before ++ r :: rest → r.number = (hi ++ lo : Half) → (∀ x ∈ before, x.number ≠ (hi ++ lo : Half)) →
      r.mark = .sent →
      let gone := before ++ [r]
      let lostEnters := s.queue.lost ≠ 0 ∧ (∀ x ∈ rest, x.isLost = false) ∧ rest.countP (fun x => !x.isLost) < 63
      let left := if lostEnters then
          rest ++ [{ number := s.queue.nextNumber, timestamp := s.clock, mark := .waiting, body := .lost s.queue.lost }]
        else rest
      ∃ t, exec (.ackEvents q [hi, lo]) s = .next t ∧
        State.Answered
          { s.afterFrame with
            serials := Table.tabulate fun i =>
              if gone.any (Record.isLineErrorOf i) = true then { s.serials.get i with errorFlag := false } else s.serials.get i
            shortFlags := Table.tabulate fun src =>
              if gone.any (Record.isShortOf src) = true then false else s.shortFlags.get src
            queue :=
              { records := left
                nextNumber := if lostEnters then s.queue.nextNumber + 1 else s.queue.nextNumber
                lost := if lostEnters then 0 else s.queue.lost }
            session := { s.session with opened := s.session.opened.map fun o => { o with
              round := 0
              resend := []
              timer := if (∃ x ∈ rest, x.mark = .sent) ∧ o.flow = .flowing then some o.timeout else none } } }
          t
          { seq := q, kind := 0x07, restart := false
            payload := [0x00, byteOf gone.length, byteOf left.length] ++
              if lostEnters then 1 :: bytes2 s.queue.nextNumber else [0] }) ∧
    ((∀ x ∈ s.queue.records, x.number = (hi ++ lo : Half) → x.mark = .waiting) →
      ∃ t, exec (.ackEvents q [hi, lo]) s = .next t ∧
        s.afterFrame.Answered t { seq := q, kind := 0x07, payload := [0x08], restart := false })

/-! ### Sources and injection (chapters 3 to 5) -/

/-- R63, R64, R65, R82, R99, R48: SET_SOURCE with every field in range, for a serial source and for SC. Enable yes over enable yes
is refused BUSY. Otherwise the configuration is replaced and the counters become 0; enable no takes the source to OFF, ending
a run that holds entries and, from LISTENING or TEST, releasing its trackers and holdoffs; enable yes takes it to TEST, or to
SETTLING, or with settle time 0 to LISTENING with its record. How the frame leaves the line is the model's choice (assumption
8). -/
def Obligations.SetSource : Prop :=
  ∀ (s : State) (q : Byte) (src : SourceId) (c : SourceConfig) (line : Option LineConfig), s.Reaches q .setSource →
    (line.isSome = true ↔ src ≠ 6) → c.settleTime ≤ 2000 → c.spacing ≤ 1000 →
    let old := s.sources.get src
    let i := serialOf? src
    let payload := indexByte src :: sourceConfigBytes c line
    let inState (st : SourceState) (rcv : SerialId → Receiver) : State := { s.afterFrame with
      sources := s.sources.set src { config := c, state := st, received := 0 }
      serials :=
        match i, line with
        | some i, some l => s.serials.modify i fun x => { x with line := l, errors := 0, receiver := rcv i }
        | _, _ => s.serials }
    let reply (st : SourceState) : Reply :=
      { seq := q, kind := 0x10, restart := false
        payload := [0x00, old.state.code, st.code] ++ bytes4 old.received ++
          bytes2 (match i with
            | some i => (s.serials.get i).errors
            | none => 0) }
    let fromIdle (i : SerialId) : Receiver := if s.pins.lines.get i = Level.high then .hunting else .waiting
    (old.config.enable = true → c.enable = true → ∃ t, exec (.setSource q payload) s = .next t ∧
      s.afterFrame.Answered t { seq := q, kind := 0x10, payload := [0x05], restart := false }) ∧
    (c.enable = false → ∃ t, exec (.setSource q payload) s = .next t ∧
      let off := inState .off fun _ => .stopped
      let j := s.injectors.get src
      let ended := if j.queue = [] then off else
        ({ off with injectors := s.injectors.set src { queue := [], delivered := 0, cancelled := 0, timer := none } }).offer
          (.injectDone src j.delivered (countUpBy j.cancelled j.queue.length) .sourceOff)
      State.Answered
        (if old.state = .listening ∨ old.state = .test then
          (ended.releaseTrackers fun t => decide (t.source = src)).clearSourceHoldoffs src
        else ended) t (reply .off)) ∧
    (old.config.enable = false → c.enable = true → c.mode = .test → ∃ t, exec (.setSource q payload) s = .next t ∧
      (inState .test fun _ => .stopped).Answered t (reply .test)) ∧
    (old.config.enable = false → c.enable = true → c.mode = .live → c.settleTime ≠ 0 →
      ∃ t, exec (.setSource q payload) s = .next t ∧
        (inState (.settling c.settleTime) fromIdle).Answered t (reply (.settling c.settleTime))) ∧
    (old.config.enable = false → old.state = .off → (∀ i, serialOf? src = some i → (s.serials.get i).receiver = .stopped) →
      c.enable = true → c.mode = .live → c.settleTime = 0 → ∃ t, exec (.setSource q payload) s = .next t ∧
        State.Answered ((inState .listening fromIdle).offerIf c.reporting (.sourceState src .listeningSettled)) t
          (reply .listening))

/-- R72, R87, R86: READ_SOURCE reports the configuration (SC's four line bytes as 0), the state, whether the source waits for host
power, the remaining settle time, the counters, the two flags and the entries waiting; READ_CONTACTS reports SC's state and
the eight channels, with pin level, stable level and the remaining time of a running timer. Both change nothing. How the frame
leaves the line is the model's choice (assumption 8). -/
def Obligations.ReadSourceAndContacts : Prop :=
  (∀ (s : State) (q : Byte) (src : SourceId), s.Reaches q .readSource →
    let c := s.sources.get src
    let x := (serialOf? src).map s.serials.get
    ∃ t, exec (.readSource q [indexByte src]) s = .next t ∧
      s.afterFrame.Answered t
        { seq := q, kind := 0x11, restart := false
          payload :=
            [0x00, yesNo c.config.enable, c.config.mode.code] ++
              (match x with
                | some x => [x.line.rate.code, x.line.dataBits.code, x.line.parity.code, x.line.domain.code]
                | none => [0, 0, 0, 0]) ++
              nat2 c.config.settleTime ++ [yesNo c.config.reporting] ++ nat2 c.config.spacing ++
              [c.state.code, if c.config.enable = true ∧ c.state = .off then 1 else 0] ++
              (match c.state with
                | .settling n => 1 :: nat2 n
                | _ => [0]) ++
              bytes4 c.received ++ bytes2 ((x.map Serial.errors).getD 0) ++
              [yesNo ((x.map Serial.errorFlag).getD false), yesNo (s.shortFlags.get src),
                byteOf (s.injectors.get src).queue.length] }) ∧
  (∀ (s : State) (q : Byte), s.Reaches q .readContacts → ∃ t, exec (.readContacts q []) s = .next t ∧
    s.afterFrame.Answered t
      { seq := q, kind := 0x15, restart := false
        payload := 0x00 :: (s.sources.get 6).state.code :: (List.finRange 8).flatMap fun k =>
          let c := s.contacts.get k
          [contactPolarityCode c.config.polarity, byteOf c.config.debounce, c.config.selection.code,
            levelCode (s.pins.contacts.get k), levelCode c.stable, yesNo (c.config.polarity.active c.stable)] ++
            (match c.timer with
              | some n => [1, byteOf n]
              | none => [0]) })

/-- R90, R91, R92, R97: INJECT with 1 to 32 entries. An entry that the source may not be given refuses the request BAD_VALUE, a
source not in TEST WRONG_STATE, and too little room FULL; else the entries join the tail, and into an empty queue the spacing
timer starts at the inject spacing. CANCEL_INJECT, in every state of the source: an empty queue is answered with counts of 0
and nothing changes; a queue that holds entries is emptied, the entries counted as cancelled, and INJECT_DONE (CANCELLED) is
offered with the counts the reply carries. How the frame leaves the line is the model's choice (assumption 8). -/
def Obligations.InjectAndCancel : Prop :=
  (∀ (s : State) (q : Byte) (src : SourceId) (es : List Symbol), s.Reaches q .inject → 1 ≤ es.length → es.length ≤ 32 →
    let payload := indexByte src :: byteOf es.length :: es.flatMap Symbol.entryBytes
    let allowed := ∀ e ∈ es,
      match (serialOf? src).map fun i => (s.serials.get i).line.dataBits, e with
      | some .seven, .value v => v.toNat ≤ 127
      | some _, _ => True
      | none, .value v => v.toNat ≤ 7 ∨ (16 ≤ v.toNat ∧ v.toNat ≤ 23)
      | none, .error _ => False
    let j := s.injectors.get src
    let refusal (status : Byte) := ∃ t, exec (.inject q payload) s = .next t ∧
      s.afterFrame.Answered t { seq := q, kind := 0x12, payload := [status], restart := false }
    (¬allowed → refusal 0x03) ∧
    (allowed → (s.sources.get src).state ≠ .test → refusal 0x06) ∧
    (allowed → (s.sources.get src).state = .test → 32 < j.queue.length + es.length → refusal 0x07) ∧
    (allowed → (s.sources.get src).state = .test → j.queue.length + es.length ≤ 32 →
      ∃ t, exec (.inject q payload) s = .next t ∧
        State.Answered
          { s.afterFrame with injectors := s.injectors.set src { j with
            queue := j.queue ++ es
            timer := if j.queue = [] then some (s.sources.get src).config.spacing else j.timer } }
          t
          { seq := q, kind := 0x12, restart := false
            payload := [0x00, byteOf (j.queue.length + es.length)] ++ bytes2 j.delivered })) ∧
  (∀ (s : State) (q : Byte) (src : SourceId), s.Reaches q .cancelInject →
    let j := s.injectors.get src
    let cancelled := countUpBy j.cancelled j.queue.length
    (j.queue = [] → ∃ t, exec (.cancelInject q [indexByte src]) s = .next t ∧
      s.afterFrame.Answered t { seq := q, kind := 0x13, payload := [0x00, 0, 0, 0, 0], restart := false }) ∧
    (j.queue ≠ [] → ∃ t, exec (.cancelInject q [indexByte src]) s = .next t ∧
      State.Answered
        (({ s.afterFrame with
          injectors := s.injectors.set src { queue := [], delivered := 0, cancelled := 0, timer := none } }).offer
          (.injectDone src j.delivered cancelled .cancelled))
        t { seq := q, kind := 0x13, payload := 0x00 :: bytes2 j.delivered ++ bytes2 cancelled, restart := false }))

/-- R93, R95, R92: the expiry of a TEST source's spacing timer delivers the head entry as one arrival, counted; with entries
left the timer starts again at the inject spacing, with none the run ends EMPTIED behind every record of the arrival. That
the command does nothing while the timer has time to go is the model's choice (assumption 2). -/
def Obligations.InjectDelivery : Prop :=
  ∀ (s : State) (src : SourceId) (sym : Symbol) (rest : List Symbol),
    let j := s.injectors.get src
    j.queue = sym :: rest → (s.sources.get src).state = .test →
    (j.timer = some 0 → ∃ t, exec (.injectDelivery src) s = .next t ∧
      let delivered := countUp j.delivered
      let handed := { s with injectors := s.injectors.set src { j with queue := rest, delivered := delivered, timer := none } }
      State.Arbitrated
        (if rest = [] then
          ({ handed.deliver src sym with
            injectors := s.injectors.set src { queue := [], delivered := 0, cancelled := 0, timer := none } }).offer
            (.injectDone src delivered (countUpBy j.cancelled 0) .emptied)
        else
          { handed.deliver src sym with injectors := s.injectors.set src { j with
            queue := rest, delivered := delivered, timer := some (s.sources.get src).config.spacing } }) t) ∧
    (∀ n, j.timer = some (n + 1) → exec (.injectDelivery src) s = .next s)

/-- R56, R55, R57, R58: a character whose stop bit has been read. It is judged as the table of R56 gives; in LISTENING the symbol
is delivered as one arrival; in SETTLING, or where it was begun in SETTLING, it is discarded. After a stop bit read low the
receiver waits for idle, after one read high it hunts. That a hunting receiver takes a character with no command for its start
bit is the model's choice (assumption 6). -/
def Obligations.SerialCharacter : Prop :=
  ∀ (s : State) (i : SerialId) (data : Byte) (parityBit stopBit : Level),
    let c := s.serials.get i
    let bits : Byte := if c.line.dataBits = .seven then data &&& 0x7F else data
    let ones := (List.range 8).countP (fun k => bits.getLsbD k) + (if parityBit = .high then 1 else 0)
    let sym : Symbol :=
      if stopBit = .low ∧ bits = 0 then .error .lineBreak
      else if stopBit = .low then .error .framing
      else if (c.line.parity = .even ∧ ones % 2 = 1) ∨ (c.line.parity = .odd ∧ ones % 2 = 0) then .error .parity
      else .value bits
    let after : State := { s with
      pins := { s.pins with lines := s.pins.lines.set i stopBit }
      serials := s.serials.set i { c with receiver := if stopBit = .low then .waiting else .hunting } }
    ((s.sources.get (sourceOf i)).state = .listening → (c.receiver = .hunting ∨ c.receiver = .receiving false) →
      ∃ t, exec (.serialCharacter i data parityBit stopBit) s = .next t ∧
        State.Arbitrated (after.deliver (sourceOf i) sym) t) ∧
    ((∃ n, (s.sources.get (sourceOf i)).state = .settling n) →
      (c.receiver = .hunting ∨ ∃ discard, c.receiver = .receiving discard) →
      exec (.serialCharacter i data parityBit stopBit) s = .next after) ∧
    (c.receiver = .receiving true → exec (.serialCharacter i data parityBit stopBit) s = .next after)

/-- R58, R59, R60: a symbol delivered at a source is one arrival at the engine and raises the received counter; an error symbol
of a serial source also raises its error counter, and offers a LINE_ERROR record when reporting is yes and the error-report
flag is clear, the flag being set exactly if the record enters. -/
def Obligations.Delivery : Prop :=
  ∀ (s : State) (src : SourceId) (sym : Symbol),
    let counted : State := { s with sources := s.sources.modify src fun c => { c with received := c.received + 1 } }
    let judged := counted.arrival src sym
    (∀ v, sym = .value v → s.deliver src sym = judged) ∧
    (∀ k i, sym = .error k → src = sourceOf i →
      let x := s.serials.get i
      let reports := (s.sources.get src).config.reporting = true ∧ x.errorFlag = false
      let enters := judged.queue.ordinaryCount < 63 ∧ judged.queue.lost = 0
      s.deliver src sym = { judged with
        queue := if reports then judged.queue.offer s.clock (.lineError i k) else judged.queue
        serials := s.serials.set i { x with
          errors := countUp x.errors
          errorFlag := if reports ∧ enters then true else x.errorFlag } })

/-- R55, R66, R68, R83: a change of a source line's level. A rise ends the wait for idle; a fall while hunting begins a character
if the line is still low at the middle of the bit time, marked to be discarded in SETTLING; a false start changes nothing. The
expiry of a settle timer takes the source to LISTENING and offers SOURCE_STATE (LISTENING, SETTLED) with reporting yes; a
receiver with no character in progress begins by waiting for idle, and a character in progress goes on. That the
expiry does nothing while the timer has time to go, and the operand that tells of the middle of the bit time, are the model's
choices (assumptions 2 and 14). -/
def Obligations.LineLevelsAndSettling : Prop :=
  (∀ (s : State) (i : SerialId) (mid : Bool),
    let r := (s.serials.get i).receiver
    let becomes (l : Level) (r' : Receiver) : State := { s with
      pins := { s.pins with lines := s.pins.lines.set i l }
      serials := s.serials.set i { s.serials.get i with receiver := r' } }
    (s.pins.lines.get i = .low →
      exec (.sourceLineLevelChange i .high mid) s = .next (becomes .high (if r = .waiting then .hunting else r))) ∧
    (s.pins.lines.get i = .high → r ≠ .hunting ∨ mid = false →
      exec (.sourceLineLevelChange i .low mid) s = .next (becomes .low r)) ∧
    (s.pins.lines.get i = .high → r = .hunting → (s.sources.get (sourceOf i)).state = .listening →
      exec (.sourceLineLevelChange i .low true) s = .next (becomes .low (.receiving false))) ∧
    (s.pins.lines.get i = .high → r = .hunting → (∃ n, (s.sources.get (sourceOf i)).state = .settling n) →
      exec (.sourceLineLevelChange i .low true) s = .next (becomes .low (.receiving true)))) ∧
  (∀ (s : State) (src : SourceId),
    ((s.sources.get src).state = .settling 0 → ∃ t, exec (.settleExpiry src) s = .next t ∧
      let c := s.sources.get src
      State.Arbitrated
        (({ s with
          sources := s.sources.set src { c with state := .listening }
          serials :=
            match serialOf? src with
            | some i => s.serials.modify i fun x => { x with receiver :=
                match x.receiver with
                | .receiving d => .receiving d
                | _ => if s.pins.lines.get i = Level.high then .hunting else .waiting }
            | none => s.serials }).offerIf c.config.reporting (.sourceState src .listeningSettled)) t) ∧
    (∀ n, (s.sources.get src).state = .settling (n + 1) → exec (.settleExpiry src) s = .next s))

/-! ### Contacts (chapter 4) -/

/-- R75, R76, R77, R78: the pin of a contact and its debounce timer. A departure starts a stopped timer at the debounce time, or
with debounce time 0 is a stable change at once; a return stops it; its expiry is a stable change. A stable change makes the
symbol that the report selection gives, delivered while SC is LISTENING. That the expiry does nothing while the timer has time
to go is the model's choice (assumption 2). -/
def Obligations.ContactEdges : Prop :=
  ∀ (s : State) (k : ContactId) (level : Level),
    let c := s.contacts.get k
    let active : Bool := (c.config.polarity = .activeLow ∧ level = .low) ∨ (c.config.polarity = .activeHigh ∧ level = .high)
    let symbol : Option Byte :=
      match c.config.selection, active with
      | .press, true => some (byteOf k.val)
      | .both, true => some (byteOf k.val)
      | .release, false => some (byteOf (16 + k.val))
      | .both, false => some (byteOf (16 + k.val))
      | _, _ => none
    let stableIn (s0 : State) : State :=
      let s1 := { s0 with contacts := s.contacts.set k { c with stable := level, timer := none } }
      match symbol with
      | some v => if (s.sources.get 6).state = .listening then s1.deliver 6 (.value v) else s1
      | none => s1
    let pinned : State := { s with pins := { s.pins with contacts := s.pins.contacts.set k level } }
    (s.pins.contacts.get k ≠ level → s.resetHeld = false → ∃ t, exec (.contactPinChange k level) s = .next t ∧
      State.Arbitrated
        (if level = c.stable then { pinned with contacts := s.contacts.set k { c with timer := none } }
        else if c.config.debounce = 0 then stableIn pinned
        else if c.timer = none then { pinned with contacts := s.contacts.set k { c with timer := some c.config.debounce } }
        else pinned) t) ∧
    (c.timer = some 0 → s.pins.contacts.get k = level → level ≠ c.stable → ∃ t, exec (.debounceExpiry k) s = .next t ∧
      State.Arbitrated (stableIn s) t) ∧
    (∀ n, c.timer = some (n + 1) → exec (.debounceExpiry k) s = .next s)

/-- R84, R75: SET_CONTACT with every field in range. The configuration is replaced; a stopped timer stays stopped; a running one
restarts at the new debounce time, or with debounce time 0 the pin level becomes stable as part of the request, with its
symbol under the new configuration. How the frame leaves the line is the model's choice (assumption 8). -/
def Obligations.SetContact : Prop :=
  ∀ (s : State) (q : Byte) (k : ContactId) (cfg : ContactConfig), s.Reaches q .setContact →
    (cfg.debounce = 0 ∨ cfg.debounce = 5 ∨ cfg.debounce = 20 ∨ cfg.debounce = 50) →
    let c := s.contacts.get k
    let pin := s.pins.contacts.get k
    let stable := if c.timer ≠ none ∧ cfg.debounce = 0 then pin else c.stable
    ∃ t, exec (.setContact q (indexByte k :: cfg.bytes)) s = .next t ∧
      State.Answered
        (if c.timer = none then { s.afterFrame with contacts := s.contacts.set k { c with config := cfg } }
        else if cfg.debounce = 0 then
          ({ s.afterFrame with contacts := s.contacts.set k { config := cfg, stable := pin, timer := none } }).contactArrival
            (contactSymbol k cfg.selection (cfg.polarity.active pin))
        else { s.afterFrame with contacts := s.contacts.set k { c with config := cfg, timer := some cfg.debounce } })
        t
        { seq := q, kind := 0x14, restart := false
          payload := 0x00 :: c.config.bytes ++ [levelCode stable, yesNo (cfg.polarity.active stable)] }

/-! ### Patterns (chapter 1) -/

/-- R3: the step test and the skip filter's. A value matches when it agrees with the step's value in every bit position where
the mask holds a 1; an error symbol matches no step and is selected by no filter; the bits of a step value are stored and
returned as written, also under mask zeros: DEFINE_PATTERN's checks keep them, and READ_PATTERN's reply carries them. -/
def Obligations.StepTest : Prop :=
  ∀ (d : Definition) (k : Nat) (st : PatternStep) (v : Byte) (e : ErrorKind),
    (d.steps[k]? = some st →
      (d.matchesStep k (.value v) = true ↔
        ∀ b : Nat, b < 8 → st.mask.getLsbD b = true → v.getLsbD b = st.value.getLsbD b) ∧
      d.matchesStep k (.error e) = false) ∧
    (d.skip = some st →
      (d.passesOver (.value v) = true ↔
        ∀ b : Nat, b < 8 → st.mask.getLsbD b = true → v.getLsbD b = st.value.getLsbD b) ∧
      d.passesOver (.error e) = false) ∧
    (∀ raw : RawDefinition, raw.check = some d →
      d.steps = raw.steps.map fun p => { value := p.1, mask := p.2 }) ∧
    (∀ (s : State) (q : Byte) (p : PatternId) (clear : Bool) (n : Entry), s.Reaches q .readPattern →
      s.patterns.get p = some n → ∃ t r front back, exec (.readPattern q [indexByte p, yesNo clear]) s = .next t ∧
        t.link.replies = s.link.replies ++ [r] ∧
        front.length = 19 + (if n.definition.spanLimit.isSome = true then 4 else 0) +
          (if n.definition.skip.isSome = true then 2 else 0) ∧
        r.payload = front ++ n.definition.steps.flatMap (fun x => [x.value, x.mask]) ++ back)

/-- R16, R18, R27, R184: DEFINE_PATTERN with any definition that is in range, written as section 11.4 gives it. The entry holds
exactly that definition, STOPPED, with hit count 0 and its holdoffs cleared; an ARMED entry refuses it BUSY. How the frame
leaves the line is the model's choice (assumption 8). -/
def Obligations.DefinePattern : Prop :=
  ∀ (s : State) (q : Byte) (p : PatternId) (d : Definition), s.Reaches q .definePattern → d.Ok →
    let old := s.patterns.get p
    ((∀ e ∈ old, e.phase ≠ .armed) → ∃ t, exec (.definePattern q (indexByte p :: d.bytes)) s = .next t ∧
      State.Answered
        { s.afterFrame with
          patterns := s.patterns.set p (some { phase := .stopped, definition := d, hits := 0 })
          holdoffs := s.holdoffs.set p (Table.fill 7 none) }
        t
        { seq := q, kind := 0x20, restart := false
          payload := 0x00 :: entryStateCode old :: bytes2 (match old with
            | some e => e.hits
            | none => 0) }) ∧
    ((∃ e ∈ old, e.phase = .armed) → ∃ t, exec (.definePattern q (indexByte p :: d.bytes)) s = .next t ∧
      s.afterFrame.Answered t { seq := q, kind := 0x20, payload := [0x05], restart := false })

/-- R17: a DEFINE_PATTERN whose length is accepted is refused BAD_VALUE when one of the listed faults applies, and is otherwise
accepted as written: the entry, where it is not ARMED, then holds exactly the definition that the payload spells. One whose
length is not accepted is refused BAD_LENGTH. What the frame leaves of the line is not said here. -/
def Obligations.DefinitionChecks : Prop :=
  ∀ (s : State) (q : Byte) (payload : List Byte), s.Reaches q .definePattern → payload.length ≤ 248 →
    let refused (status : Byte) := ∃ t u, exec (.definePattern q payload) s = .next t ∧ s.FrameDone u ∧
      u.Answered t { seq := q, kind := 0x20, payload := [status], restart := false }
    (RawDefinition.parse payload = none → refused 0x02) ∧
    ∀ raw, RawDefinition.parse payload = some raw →
      let fits :=
        raw.index.toNat ≤ 31 ∧
        (raw.sources ≠ 0 ∧ raw.sources.getLsbD 7 = false) ∧
        (raw.spanFlag = 0 ∨ raw.spanFlag = 1) ∧ (raw.skipFlag = 0 ∨ raw.skipFlag = 1) ∧
        (1 ≤ raw.gapLimit.toNat ∧ raw.gapLimit.toNat ≤ 60000) ∧
        (∀ w ∈ raw.span, 1 ≤ w.toNat ∧ w.toNat ≤ 600000) ∧
        ((raw.policy = 0x00 ∧ raw.holdoff = 0) ∨
          (raw.policy = 0x01 ∧ 1 ≤ raw.holdoff.toNat ∧ raw.holdoff.toNat ≤ 60000)) ∧
        (raw.condition = 0x00 ∨ raw.condition = 0x01 ∨ raw.condition = 0x02) ∧
        (raw.consume = 0 ∨ raw.consume = 1) ∧ (raw.oneShot = 0 ∨ raw.oneShot = 1) ∧ (raw.report = 0 ∨ raw.report = 1) ∧
        (raw.capture = 0 ∨ raw.capture = 1) ∧ ¬(raw.capture = 1 ∧ raw.report = 0) ∧
        (∀ b : Nat, 4 ≤ b → raw.route.getLsbD b = false)
      (¬fits → refused 0x03) ∧
      (fits → ∃ (p : PatternId) (d : Definition), d.Ok ∧ payload = indexByte p :: d.bytes ∧
        ((∀ e ∈ s.patterns.get p, e.phase ≠ .armed) → ∃ t, exec (.definePattern q payload) s = .next t ∧
          t.patterns.get p = some { phase := .stopped, definition := d, hits := 0 }))

/-- R19: ARM_PATTERN takes a STOPPED or SPENT entry to ARMED with its definition and hit count kept, changes nothing in ARMED, is
refused WRONG_STATE in EMPTY, and reports the state before; holdoffs, trackers and sources are as they were. What the frame
leaves of the line is not said here. -/
def Obligations.ArmPattern : Prop :=
  ∀ (s : State) (q : Byte) (p : PatternId), s.Reaches q .armPattern →
    (∀ e, s.patterns.get p = some e → ∃ t u, exec (.armPattern q [indexByte p]) s = .next t ∧ s.FrameDone u ∧
      State.Answered { u with patterns := s.patterns.set p (some { e with phase := .armed }) } t
        { seq := q, kind := 0x21, restart := false
          payload := [0x00, match e.phase with
            | .stopped => 0x01
            | .armed => 0x02
            | .spent => 0x03] }) ∧
    (s.patterns.get p = none → ∃ t u, exec (.armPattern q [indexByte p]) s = .next t ∧ s.FrameDone u ∧
      u.Answered t { seq := q, kind := 0x21, payload := [0x06], restart := false })

/-- R20, R21, R27, R47: STOP_PATTERN and ERASE_PATTERN in every state of the entry. How the frame leaves the line is the model's
choice (assumption 8). -/
def Obligations.StopAndErase : Prop :=
  ∀ (s : State) (q : Byte) (p : PatternId),
    (s.Reaches q .stopPattern →
      (s.patterns.get p = none → ∃ t, exec (.stopPattern q [indexByte p]) s = .next t ∧
        s.afterFrame.Answered t { seq := q, kind := 0x22, payload := [0x06], restart := false }) ∧
      (∀ e, s.patterns.get p = some e → e.phase = .stopped → ∃ t, exec (.stopPattern q [indexByte p]) s = .next t ∧
        s.afterFrame.Answered t { seq := q, kind := 0x22, payload := [0x00, 0x01], restart := false }) ∧
      (∀ e, s.patterns.get p = some e → e.phase ≠ .stopped → ∃ t, exec (.stopPattern q [indexByte p]) s = .next t ∧
        State.Answered
          { s.afterFrame with
            patterns := s.patterns.set p (some { e with phase := .stopped })
            trackers := s.trackers.map fun slot => slot.filter fun t => decide (t.pattern ≠ p)
            holdoffs := s.holdoffs.set p (Table.fill 7 none) }
          t { seq := q, kind := 0x22, payload := [0x00, entryStateCode (some e)], restart := false })) ∧
    (s.Reaches q .erasePattern →
      (s.patterns.get p = none → ∃ t, exec (.erasePattern q [indexByte p]) s = .next t ∧
        s.afterFrame.Answered t { seq := q, kind := 0x23, payload := [0x00, 0x00, 0, 0], restart := false }) ∧
      (∀ e, s.patterns.get p = some e → e.phase = .armed → ∃ t, exec (.erasePattern q [indexByte p]) s = .next t ∧
        s.afterFrame.Answered t { seq := q, kind := 0x23, payload := [0x05], restart := false }) ∧
      (∀ e, s.patterns.get p = some e → e.phase ≠ .armed → ∃ t, exec (.erasePattern q [indexByte p]) s = .next t ∧
        State.Answered
          { s.afterFrame with
            patterns := s.patterns.set p none
            holdoffs := s.holdoffs.set p (Table.fill 7 none) }
          t
          { seq := q, kind := 0x23, restart := false
            payload := [0x00, entryStateCode (some e)] ++ bytes2 e.hits }))

/-- R22, R14: READ_PATTERN reports the entry, for an EMPTY one its state alone, and with the clear-hits flag sets the hit count
to 0 once the count has been taken into the reply. How the frame leaves the line is the model's choice (assumption 8). -/
def Obligations.ReadPattern : Prop :=
  ∀ (s : State) (q : Byte) (p : PatternId) (clear : Bool), s.Reaches q .readPattern →
    (s.patterns.get p = none → ∃ t, exec (.readPattern q [indexByte p, yesNo clear]) s = .next t ∧
      s.afterFrame.Answered t { seq := q, kind := 0x24, payload := [0x00, 0x00], restart := false }) ∧
    (∀ e, s.patterns.get p = some e → ∃ t, exec (.readPattern q [indexByte p, yesNo clear]) s = .next t ∧
      State.Answered
        (if clear = true then { s.afterFrame with patterns := s.patterns.set p (some { e with hits := 0 }) }
        else s.afterFrame)
        t
        { seq := q, kind := 0x24, restart := false
          payload := 0x00 :: entryStateCode (some e) :: e.definition.bytes ++ bytes2 e.hits ++
            [match e.definition.condition, s.power.qualified with
              | .hostOn, .absent => 0
              | .hostOff, .present => 0
              | _, _ => 1] })

/-! ### The matching engine (chapter 2) -/

/-- R29, R30, R31, R32: part 1 of an arrival at `src`, tracker by tracker. A tracker of a pattern that takes part is passed
over, advances, completes (released) or mismatches (released, its holdoff started under HOLDOFF); every other tracker is as it
was. That an advance leaves a span deadline that stands at 0 to expire is the model's choice (assumption 18). -/
def Obligations.TrackerJudging : Prop :=
  ∀ (s : State) (src : SourceId) (sym : Symbol) (i : TrackerId) (t : Tracker), s.trackers.get i = some t →
    let s' := s.judgeTrackers src sym
    ((t.source ≠ src ∨ s.participant src t.pattern = none) → s'.trackers.get i = some t) ∧
    (∀ d, t.source = src → s.participant src t.pattern = some d →
      (d.passesOver sym = true → s'.trackers.get i = some t) ∧
      (∀ v, sym = .value v → d.passesOver sym = false → d.matchesStep t.next sym = true → t.next + 1 ≠ d.steps.length →
        s'.trackers.get i = some { t with
          next := t.next + 1, gap := d.gapLimit, captured := t.captured.map fun vs => vs ++ [v] }) ∧
      (∀ v, sym = .value v → d.passesOver sym = false → d.matchesStep t.next sym = true → t.next + 1 = d.steps.length →
        s'.trackers.get i = none ∧ s.completionOf src sym t =
          some { pattern := t.pattern, start := t.start, captured := t.captured.map fun vs => vs ++ [v] }) ∧
      (d.passesOver sym = false → d.matchesStep t.next sym = false →
        s'.trackers.get i = none ∧
        ∀ time, d.policy = .holdoff time → (s'.holdoffs.get t.pattern).get src = some time))

/-- A pattern that alone takes part in the arrival of a value. R33 to R38, R40 to R42: its start with two or more steps claims the
lowest free tracker, or with none free is lost and reported as the short-report flag allows; with one step it completes. R30,
R38 to R42: at the last step of its tracker, that is released, and the pattern completes with the tracker's start time and
captured symbols and this value, and is not started again by the same arrival. A completion counts the hit, offers the HIT
record with report yes, sends the latch requests in output order, retires a one-shot entry, and with consume yes releases the
source's trackers. -/
def Obligations.LonePattern : Prop :=
  (∀ (s : State) (src : SourceId) (v : Byte) (p : PatternId) (e : Entry), s.patterns.get p = some e →
    let d := e.definition
    s.participant src p = some d → (∀ p', p' ≠ p → s.participant src p' = none) →
    (∀ i, ∀ t ∈ s.trackers.get i, ¬(t.pattern = p ∧ t.source = src)) → (s.holdoffs.get p).get src = none →
    d.passesOver (.value v) = false → d.matchesStep 0 (.value v) = true →
    (d.steps.length ≠ 1 → ∀ i, s.trackers.get i = none → (∀ j < i, s.trackers.get j ≠ none) →
      s.arrival src (.value v) = { s with trackers := s.trackers.set i (some
        { pattern := p, source := src, next := 1, gap := d.gapLimit, span := d.spanLimit, start := s.clock,
          captured := if d.capture = true then some [v] else none }) }) ∧
    (d.steps.length ≠ 1 → (∀ i, s.trackers.get i ≠ none) →
      s.arrival src (.value v) =
        if s.shortFlags.get src = true then s
        else if s.queue.ordinaryCount < 63 ∧ s.queue.lost = 0 then
          { s.offer (.trackerShort src p) with shortFlags := s.shortFlags.set src true }
        else s.offer (.trackerShort src p)) ∧
    (d.steps.length = 1 →
      s.arrival src (.value v) = { s with
        patterns := s.patterns.set p (some { e with
          hits := if e.hits = 65535 then 65535 else e.hits + 1
          phase := if d.oneShot = true then .spent else e.phase })
        queue :=
          if d.report = true then
            s.queue.offer s.clock (.hit p d.label src 1 s.clock (if d.capture = true then some [v] else none))
          else s.queue
        latchRequests := s.latchRequests ++ (List.finRange 4).filter fun w => d.route.getLsbD w.val
        trackers := s.trackers.map fun slot => slot.filter fun t =>
          !(d.oneShot && decide (t.pattern = p)) && !(d.consume && decide (t.source = src)) })) ∧
  ∀ (s : State) (src : SourceId) (v : Byte) (i : TrackerId) (t : Tracker) (e : Entry), s.trackers.get i = some t →
    t.source = src → s.patterns.get t.pattern = some e →
    let d := e.definition
    s.participant src t.pattern = some d → (∀ p', p' ≠ t.pattern → s.participant src p' = none) →
    (∀ j, j ≠ i → ∀ u ∈ s.trackers.get j, ¬(u.pattern = t.pattern ∧ u.source = src)) →
    d.passesOver (.value v) = false → d.matchesStep t.next (.value v) = true → t.next + 1 = d.steps.length →
    s.arrival src (.value v) = { s with
      patterns := s.patterns.set t.pattern (some { e with
        hits := if e.hits = 65535 then 65535 else e.hits + 1
        phase := if d.oneShot = true then .spent else e.phase })
      queue :=
        if d.report = true then
          s.queue.offer s.clock
            (.hit t.pattern d.label src d.steps.length t.start (t.captured.map fun vs => vs ++ [v]))
        else s.queue
      latchRequests := s.latchRequests ++ (List.finRange 4).filter fun w => d.route.getLsbD w.val
      trackers := (s.trackers.set i none).map fun slot => slot.filter fun u =>
        !(d.oneShot && decide (u.pattern = t.pattern)) && !(d.consume && decide (u.source = src)) }

/-- R28 to R43: the arrival of a value, whole, whatever patterns take part. After part 1 (`j`, with the holdoffs that only its
mismatches start) the patterns are scanned in index order: one that takes part, has no tracker left on the source, did not
complete in part 1, has no running holdoff there, does not pass the value over and matches it at step 0 is started, and no
other; so a tracker that mismatched under RESTART may start again by the same value. The starts of two or more steps claim the
free trackers, lowest id first; the first that finds none is reported as TRACKER_SHORT, before any HIT, as the flag allows. The
completions of part 1 and of one-step starts are then taken together in index order, and consume comes last. The premise is the
pool's invariant: one tracker at most for a pattern and a source. That an advance leaves a span deadline that stands at 0 to
expire is the model's choice (assumption 18). -/
def Obligations.ArrivalOfMany : Prop :=
  ∀ (s : State) (src : SourceId) (v : Byte), s.PoolOk →
    let j := s.judgeTrackers src (.value v)
    let ends (p : PatternId) : Option Completion := (List.finRange 24).findSome? fun i =>
      (s.trackers.get i).bind fun u => if u.pattern = p then s.completionOf src (.value v) u else none
    let starts (p : PatternId) : Bool := (s.participant src p).any fun d =>
      decide (∀ i, ∀ u ∈ j.trackers.get i, ¬(u.pattern = p ∧ u.source = src)) && (ends p).isNone &&
        ((j.holdoffs.get p).get src).isNone && !d.passesOver (.value v) && d.matchesStep 0 (.value v)
    let begins (long : Bool) : List (PatternId × Definition) := (List.finRange 32).filterMap fun p =>
      (s.participant src p).bind fun d =>
        if starts p = true ∧ decide (d.steps.length ≠ 1) = long then some (p, d) else none
    let free := (List.finRange 24).filter fun i => (j.trackers.get i).isNone
    let claimed (i : TrackerId) : Option Tracker := ((begins true)[free.idxOf i]?).map fun x =>
      { pattern := x.1, source := src, next := 1, gap := x.2.gapLimit, span := x.2.spanLimit, start := s.clock,
        captured := if x.2.capture = true then some [v] else none }
    let short := if s.shortFlags.get src = true then none else ((begins true)[free.length]?).map Prod.fst
    let completed : List (Definition × Completion) := (List.finRange 32).filterMap fun p =>
      (s.participant src p).bind fun d =>
        if (ends p).isSome = true then (ends p).map fun c => (d, c)
        else if (p, d) ∈ begins false then
          some (d, { pattern := p, start := s.clock, captured := if d.capture = true then some [v] else none })
        else none
    (∀ p c, (c ≠ src ∨ ∀ i, ∀ u ∈ s.trackers.get i, u.pattern = p → u.source = src → ∀ d ∈ s.participant src p,
        d.policy = .restart ∨ d.passesOver (.value v) = true ∨ d.matchesStep u.next (.value v) = true) →
      (j.holdoffs.get p).get c = (s.holdoffs.get p).get c) ∧
    s.arrival src (.value v) = { s with
      patterns := Table.tabulate fun p =>
        if completed.any (fun x => decide (x.2.pattern = p)) = true then
          (s.patterns.get p).map fun e => { e with
            hits := if e.hits = 65535 then 65535 else e.hits + 1
            phase := if e.definition.oneShot = true then .spent else e.phase }
        else s.patterns.get p
      trackers := Table.tabulate fun i =>
        (if i ∈ free then claimed i else j.trackers.get i).filter fun u =>
          !completed.any fun x => (x.1.oneShot && decide (u.pattern = x.2.pattern)) || (x.1.consume && decide (u.source = src))
      holdoffs := j.holdoffs
      shortFlags :=
        if short.isSome = true ∧ s.queue.ordinaryCount < 63 ∧ s.queue.lost = 0 then s.shortFlags.set src true
        else s.shortFlags
      latchRequests := s.latchRequests ++ completed.flatMap fun x => (List.finRange 4).filter fun w => x.1.route.getLsbD w.val
      queue := completed.foldl
        (fun q x =>
          if x.1.report = true then
            q.offer s.clock (.hit x.2.pattern x.1.label src x.1.steps.length x.2.start x.2.captured)
          else q)
        (match short with
          | some p => s.queue.offer s.clock (.trackerShort src p)
          | none => s.queue) }

/-- R31, R33: an error symbol starts no pattern and completes none: it releases the tracker of every pattern that takes part and
has one on the source, and changes neither the patterns, the event queue, the report flags nor the latch requests. -/
def Obligations.ErrorArrival : Prop :=
  ∀ (s : State) (src : SourceId) (k : ErrorKind),
    let t := s.arrival src (.error k)
    t = { s with trackers := t.trackers, holdoffs := t.holdoffs } ∧
    ∀ i : TrackerId, t.trackers.get i = (s.trackers.get i).filter fun x =>
      !(decide (x.source = src) && (s.participant src x.pattern).isSome)

/-- R14, R30, R41, R28: what an arrival can do to a pattern entry. Its definition stays; the entry is as it was, or it was ARMED
and completed once: its hit count rose by one (saturating) and it is SPENT exactly if it is one-shot. A completion comes only
to a pattern that takes part. The premises are the pool's and the definitions' invariants. -/
def Obligations.HitsOnce : Prop :=
  ∀ (s : State) (src : SourceId) (sym : Symbol), s.PatternsOk → s.PoolOk →
    let t := s.arrival src sym
    ∀ p : PatternId,
      (s.patterns.get p = none → t.patterns.get p = none) ∧
      ∀ e, s.patterns.get p = some e → t.patterns.get p = some e ∨
        (s.participant src p = some e.definition ∧ t.patterns.get p = some { e with
          hits := if e.hits = 65535 then 65535 else e.hits + 1
          phase := if e.definition.oneShot = true then .spent else .armed })

/-- R44, R45, R26: the expiries of the engine's timers. A tracker whose gap or span deadline has reached 0 is released; a
holdoff entry that has run out is cleared; nothing else happens. That each command does nothing while its timer has time to go
is the model's choice (assumption 2), and so is that a span deadline at 0 expires after an advance that came together with it
(assumption 18). -/
def Obligations.EngineExpiries : Prop :=
  ∀ (s : State),
    (∀ i t, s.trackers.get i = some t → t.gap = 0 →
      exec (.gapDeadlineExpiry i) s = .next { s with trackers := s.trackers.set i none }) ∧
    (∀ i t, s.trackers.get i = some t → t.gap ≠ 0 → exec (.gapDeadlineExpiry i) s = .next s) ∧
    (∀ i t, s.trackers.get i = some t → t.span = some 0 →
      exec (.spanDeadlineExpiry i) s = .next { s with trackers := s.trackers.set i none }) ∧
    (∀ i t, s.trackers.get i = some t → t.span ≠ some 0 → exec (.spanDeadlineExpiry i) s = .next s) ∧
    (∀ p src, (s.holdoffs.get p).get src = some 0 →
      exec (.holdoffExpiry p src) s = .next { s with holdoffs := s.holdoffs.set p ((s.holdoffs.get p).set src none) }) ∧
    (∀ p src, (s.holdoffs.get p).get src ≠ some 0 → exec (.holdoffExpiry p src) s = .next s)

/-- R51, R52: READ_TRACKERS reports the number in use and the trackers from the first id on, six at most, with the id of the next;
FLUSH_TRACKERS releases every tracker and clears every holdoff on the listed sources, an empty set changing nothing. How the
frame leaves the line is the model's choice (assumption 8). -/
def Obligations.TrackerRequests : Prop :=
  ∀ (s : State) (q : Byte),
    (∀ first : TrackerId, s.Reaches q .readTrackers →
      let used := (List.finRange 24).filter fun i => decide (first ≤ i) && (s.trackers.get i).isSome
      ∃ t, exec (.readTrackers q [indexByte first]) s = .next t ∧
        s.afterFrame.Answered t
          { seq := q, kind := 0x28, restart := false
            payload := [0x00, byteOf (s.trackers.rows.countP Option.isSome), byteOf (used.take 6).length] ++
              (used.take 6).flatMap (fun i =>
                match s.trackers.get i with
                | some x =>
                  [indexByte i, indexByte x.pattern, indexByte x.source, byteOf x.next] ++ nat2 x.gap ++
                    (match x.span with
                      | some n => 1 :: nat4 n
                      | none => [0]) ++ bytes4 x.start ++
                    (match x.captured with
                      | some vs => byteOf vs.length :: vs
                      | none => [0])
                | none => []) ++
              (match used.drop 6 with
                | i :: _ => [1, indexByte i]
                | [] => [0]) }) ∧
    (∀ set : BitVec 7, s.Reaches q .flushTrackers →
      ∃ t, exec (.flushTrackers q [set.setWidth 8]) s = .next t ∧
        State.Answered
          { s.afterFrame with
            trackers := s.trackers.map fun slot => slot.filter fun x => !set.getLsbD x.source.val
            holdoffs := s.holdoffs.map fun row =>
              Table.tabulate fun src => if set.getLsbD src.val = true then none else row.get src }
          t
          { seq := q, kind := 0x29, restart := false
            payload := [0x00,
              byteOf (s.trackers.rows.countP fun slot => slot.any fun x => set.getLsbD x.source.val),
              byteOf (((List.finRange 32).map fun p => (List.finRange 7).countP fun src =>
                set.getLsbD src.val && ((s.holdoffs.get p).get src).isSome).sum)] })

/-! ### Wake outputs and host power (chapter 7) -/

/-- R124, R126: a latch request taken at an output sets a clear latch if the output is enabled and its gate open, starting a pulse
of the pulse width in PULSE mode, and otherwise changes nothing; the request sent for the output is then no longer
outstanding (the model's choice, assumption 5). The expiry of a pulse timer ends the pulse and keeps the latch; that it does
nothing while the timer has time to go is the model's choice (assumption 2). -/
def Obligations.LatchAndPulse : Prop :=
  ∀ (s : State) (w : OutputId),
    let x := s.wakes.get w
    let open' := x.config.gate = .any ∨ s.power.qualified = .absent
    (x.config.enable = true → open' → x.latch = false → exec (.latchRequest w) s = .next { s with
      latchRequests := s.latchRequests.erase w
      wakes := s.wakes.set w { x with
        latch := true, pulse := if x.config.mode = .pulse then some x.config.width.toNat else none } }) ∧
    (¬(x.config.enable = true ∧ open' ∧ x.latch = false) → exec (.latchRequest w) s =
      .next { s with latchRequests := s.latchRequests.erase w }) ∧
    (x.pulse = some 0 → exec (.pulseExpiry w) s = .next { s with wakes := s.wakes.set w { x with pulse := none } }) ∧
    (x.pulse ≠ some 0 → exec (.pulseExpiry w) s = .next s)

/-- R127, R128, R129: SET_WAKE replaces the configuration, ends a running pulse and keeps the latch; a pulse width of 0 is
refused. CLEAR_WAKE clears the latches and ends the pulses of the outputs named. How the frame leaves the line is the model's
choice (assumption 8). -/
def Obligations.SetAndClearWake : Prop :=
  ∀ (s : State) (q : Byte),
    (∀ (w : OutputId) (cfg : WakeConfig), s.Reaches q .setWake →
      let x := s.wakes.get w
      (cfg.width ≠ 0 → ∃ t, exec (.setWake q (indexByte w :: cfg.bytes)) s = .next t ∧
        State.Answered { s.afterFrame with wakes := s.wakes.set w { config := cfg, latch := x.latch, pulse := none } } t
          { seq := q, kind := 0x30, restart := false
            payload := 0x00 :: x.config.bytes ++ [yesNo x.latch,
              if x.latch = true ∧ cfg.enable = true ∧ (cfg.gate = .any ∨ s.power.qualified = .absent) ∧ cfg.mode = .level
                then 1 else 0] }) ∧
      (cfg.width = 0 → ∃ t, exec (.setWake q (indexByte w :: cfg.bytes)) s = .next t ∧
        s.afterFrame.Answered t { seq := q, kind := 0x30, payload := [0x03], restart := false })) ∧
    (∀ set : BitVec 4, s.Reaches q .clearWake → ∃ t, exec (.clearWake q [set.setWidth 8]) s = .next t ∧
      State.Answered
        { s.afterFrame with
          wakes := Table.tabulate fun w =>
            if set.getLsbD w.val = true then { s.wakes.get w with latch := false, pulse := none } else s.wakes.get w }
        t
        { seq := q, kind := 0x31, restart := false
          payload := [0x00, outputSetByte fun w => set.getLsbD w.val && (s.wakes.get w).latch,
            outputSetByte fun w => !set.getLsbD w.val && (s.wakes.get w).latch] })

/-- R131, R123, R125, R126: READ_WAKE reports, for each output, its configuration, latch, remaining pulse time, gate, assertion
and pin level, and then the host-power monitor; it changes nothing. How the frame leaves the line is the model's choice
(assumption 8). -/
def Obligations.ReadWake : Prop :=
  ∀ (s : State) (q : Byte), s.Reaches q .readWake → ∃ t, exec (.readWake q []) s = .next t ∧
    s.afterFrame.Answered t
      { seq := q, kind := 0x32, restart := false
        payload := 0x00 :: ((List.finRange 4).flatMap fun w =>
          let x := s.wakes.get w
          let gateOpen : Bool := x.config.gate = .any ∨ s.power.qualified = .absent
          let asserted : Bool := x.latch && x.config.enable && gateOpen && (decide (x.config.mode = .level) || x.pulse.isSome)
          let pin : Byte := if asserted = decide (x.config.polarity = .activeHigh) then 1 else 0
          x.config.bytes ++ [yesNo x.latch] ++
            (match x.pulse with
              | some n => [1, byteOf n]
              | none => [0]) ++ [yesNo gateOpen, yesNo asserted, pin]) ++
          [s.power.qualified.code, levelCode s.pins.hostpwr] ++
          (match s.power.timer with
            | some n => [1, byteOf n]
            | none => [0]) }

/-- R136, R182: a change of HOSTPWR starts the stopped qualification timer at 10 ms where the input comes to differ from the
qualified state, and stops it where it agrees again; while RESET is low only the pin's level changes. -/
def Obligations.HostpwrChange : Prop :=
  ∀ (s : State) (l : Level), s.pins.hostpwr ≠ l →
    let agrees := (l = .high ∧ s.power.qualified = .present) ∨ (l = .low ∧ s.power.qualified = .absent)
    (s.resetHeld = false → exec (.hostpwrChange l) s = .next { s with
      pins := { s.pins with hostpwr := l }
      power := { s.power with timer := if agrees then none else if s.power.timer = none then some 10 else s.power.timer } }) ∧
    (s.resetHeld = true → exec (.hostpwrChange l) s = .next { s with pins := { s.pins with hostpwr := l } })

/-- R137, R69, R70, R49, R156, R161, R132: the expiry of the qualification timer. POWER is offered first and then, in source
number order, the SOURCE_STATE records of the serial sources that the change takes to OFF or, with settle time 0, to
LISTENING. The trackers of the sources that go OFF and of the ARMED patterns that cease to be effective are released; at
ABSENT the session closes and the link is held; closing gates end pulses. -/
def Obligations.QualifiedPowerChange : Prop :=
  ∀ (s : State) (p : HostPower), s.SourcesOk → s.power.timer = some 0 → s.power.qualified ≠ p →
    (s.pins.hostpwr = .high ↔ p = .present) →
    ∃ t, exec .qualifiedPowerChange s = .next t ∧
      let follows (i : SerialId) : Prop := (s.sources.get (sourceOf i)).config.enable = true ∧
        (s.sources.get (sourceOf i)).config.mode = .live ∧ (s.serials.get i).line.domain = .host
      let offered (q : EventQueue) (i : SerialId) : EventQueue :=
        if follows i ∧ (s.sources.get (sourceOf i)).config.reporting = true ∧
            (p = .absent ∨ (s.sources.get (sourceOf i)).config.settleTime = 0) then
          q.offer s.clock (.sourceState (sourceOf i) (if p = .absent then .offHostPower else .listeningSettled))
        else q
      let queue := (List.finRange 6).foldl offered (s.queue.offer s.clock (.power p))
      t = { s with
        power := { qualified := p, timer := none }
        queue := if p = .absent ∧ s.session.opened ≠ none then queue.allWaiting else queue
        session :=
          if p = .absent ∧ s.session.opened ≠ none then { s.session with opened := none, lastClose := .hostPower }
          else s.session
        link := t.link, wakes := t.wakes, sources := t.sources, serials := t.serials
        trackers := t.trackers, holdoffs := t.holdoffs } ∧
      (p = .absent → t.link = { s.link with
        receiver := .hunting
        errors := if s.link.receiver = .hunting then s.link.errors else countUp s.link.errors
        byteReceiver := .waiting
        breakTimer := none
        replies := []
        transmitter := .idle }) ∧
      (p = .present → t.link = { s.link with byteReceiver := if s.pins.hrx = .high then .hunting else .waiting }) ∧
      (∀ w, t.wakes.get w =
        if p = .present ∧ (s.wakes.get w).config.gate = .hostOffOnly then { s.wakes.get w with pulse := none }
        else s.wakes.get w) ∧
      t.sources.get 6 = s.sources.get 6 ∧
      (∀ i : SerialId, ¬follows i → t.sources.get (sourceOf i) = s.sources.get (sourceOf i) ∧
        t.serials.get i = s.serials.get i) ∧
      (∀ i : SerialId, follows i →
        let c := s.sources.get (sourceOf i)
        t.sources.get (sourceOf i) = { c with state :=
          if p = .absent then .off else if c.config.settleTime = 0 then .listening else .settling c.config.settleTime } ∧
        t.serials.get i = { s.serials.get i with receiver :=
          if p = .absent then .stopped else if s.pins.lines.get i = .high then .hunting else .waiting }) ∧
      (∀ x : TrackerId, t.trackers.get x = (s.trackers.get x).filter fun u =>
        !(decide (p = .absent ∧ (s.sources.get u.source).state = .listening ∧ ∃ i, u.source = sourceOf i ∧ follows i) ||
          (match s.patterns.get u.pattern with
            | some e => decide (e.phase = .armed ∧
                ((e.definition.condition = .hostOn ∧ p = .absent) ∨ (e.definition.condition = .hostOff ∧ p = .present)))
            | none => false))) ∧
      (∀ (y : PatternId) (src : SourceId), (t.holdoffs.get y).get src =
        if p = .absent ∧ (s.sources.get src).state = .listening ∧ ∃ i, src = sourceOf i ∧ follows i then none
        else (s.holdoffs.get y).get src)

/-! ### Invariants that every step keeps -/

/-- R101, R110, R163, R111: at most 63 ordinary records and one LOST record, with consecutive numbers; SENT records before WAITING
ones, no more than the window, and none without a session. -/
def Obligations.QueueKept : Prop :=
  ∀ s t : State, s.queue.Ok ∧ s.MarksOk → step s = .next t → t.queue.Ok ∧ t.MarksOk

/-- R115: for each source the queue holds a LINE_ERROR record, and a TRACKER_SHORT record, exactly while the flag is set, and
never two. -/
def Obligations.ReportFlagsKept : Prop :=
  ∀ s t : State, s.FlagsOk → step s = .next t → t.FlagsOk

/-- R23, R15, R17, R25, R55, R61, R88, R92: every tracker in use belongs to an ARMED, effective pattern that lists its source,
which is LISTENING or TEST, with next step and deadlines in range and no two alike; holdoffs run only where they may; every
source is in a state its configuration and host power allow; injection queues hold entries in TEST alone. -/
def Obligations.EngineKept : Prop :=
  ∀ s t : State, s.PatternsOk ∧ s.PoolOk ∧ s.HoldoffsOk ∧ s.SourcesOk ∧ s.InjectorsOk → step s = .next t →
    t.PatternsOk ∧ t.PoolOk ∧ t.HoldoffsOk ∧ t.SourcesOk ∧ t.InjectorsOk

/-- R74, R76, R123, R126, R136: a debounce timer runs exactly while the pin differs from the stable level; a pulse runs only at an
enabled PULSE output with open gate and set latch; the qualification timer runs exactly while HOSTPWR differs from the
qualified state. -/
def Obligations.PinsKept : Prop :=
  ∀ s t : State, s.ContactsOk ∧ s.WakesOk ∧ s.PowerOk → step s = .next t → t.ContactsOk ∧ t.WakesOk ∧ t.PowerOk

/-- R145, R153, R154, R156: at most four replies, the one being sent at the head; a held link receives, queues and sends nothing
and has no session open; an idle transmitter has nothing to send. -/
def Obligations.LinkKept : Prop :=
  ∀ s t : State, s.LinkOk ∧ s.ArbiterOk → step s = .next t → t.LinkOk ∧ t.ArbiterOk

/-- R157, R165, R167, R168, R171: window, timeout and round in range; the resend list holds SENT records in queue order and is
empty while HELD; the retransmit timer runs only while FLOWING with a SENT record. -/
def Obligations.SessionKept : Prop :=
  ∀ s t : State, s.SessionOk → step s = .next t → t.SessionOk

/-- R182: while RESET is low every block holds its POR values, whatever command comes. -/
def Obligations.ResetKept : Prop :=
  ∀ s t : State, s.ResetOk → step s = .next t → t.ResetOk

/-! ### The whole machine -/

/-- R141: the link rate holds until the next power-on sequence: no other command changes it. -/
def Obligations.RateHolds : Prop :=
  ∀ (s t : State) (i : Instr), (∀ lr1 lr0, i ≠ .powerOnSequence lr1 lr0) → exec i s = .next t → t.link.rate = s.link.rate

/-- R114, R118: apart from the resets, a record leaves the queue only through an acknowledgement: after any command that is no
ACK_EVENTS (nor a byte that may complete one) and brings no reset about, every record of the queue is still there, in its
place, with its number, timestamp and content. -/
def Obligations.RecordsStay : Prop :=
  ∀ (s t : State) (i : Instr), (∀ q k p, i.frame? = some (q, k, p) → k ≠ 0x07) → (∀ b, i ≠ .linkByte b) →
    i ≠ .resetAssert → (∀ lr1 lr0, i ≠ .powerOnSequence lr1 lr0) →
    (i = .transmitFrameEnd → ∀ r ∈ s.link.replies, r.restart = false) → exec i s = .next t →
    ∃ new, t.queue.records.map (fun r => (r.number, r.timestamp, r.body)) =
      s.queue.records.map (fun r => (r.number, r.timestamp, r.body)) ++ new

end
end

