-- ==== Sys2Proof/Laws/Bytes.lean ====
section
/-! SUPPORT. Laws/Bytes.lean: every field written is the field read back: multi-byte fields, numbers, codes and sets. -/
namespace Sys2Proof.Machine

/-! ### Multi-byte fields (R183) -/

theorem extractLsb'_append_hi (a b : Byte) : (a ++ b).extractLsb' 8 8 = a := by
  apply BitVec.eq_of_getLsbD_eq
  intro i hi
  rw [BitVec.getLsbD_extractLsb', BitVec.getLsbD_append]
  simp [hi, show ¬ (8 + i < 8) by omega]

theorem extractLsb'_append_lo (a b : Byte) : (a ++ b).extractLsb' 0 8 = b := by
  apply BitVec.eq_of_getLsbD_eq
  intro i hi
  rw [BitVec.getLsbD_extractLsb', BitVec.getLsbD_append]
  simp [hi]

@[simp] theorem bytes2_join2 (a b : Byte) : bytes2 (join2 a b) = [a, b] := by
  simp only [bytes2, join2, extractLsb'_append_hi, extractLsb'_append_lo]

@[simp] theorem join2_bytes2 (h : Half) : join2 (h.extractLsb' 8 8) (h.extractLsb' 0 8) = h := by
  apply BitVec.eq_of_getLsbD_eq
  intro i hi
  unfold join2
  rw [BitVec.getLsbD_append]
  by_cases h8 : i < 8
  · simp [h8]
  · simp [h8, show i - 8 < 8 by omega, show 8 + (i - 8) = i by omega]

@[simp] theorem join4_bytes4 (w : Word) :
    join4 (w.extractLsb' 24 8) (w.extractLsb' 16 8) (w.extractLsb' 8 8) (w.extractLsb' 0 8) = w := by
  apply BitVec.eq_of_getLsbD_eq
  intro i hi
  unfold join4
  simp only [BitVec.getLsbD_append, BitVec.getLsbD_extractLsb']
  by_cases h8 : i < 8
  · simp [h8, show i < 16 by omega]
  by_cases h16 : i < 16
  · simp [h8, h16, show i - 8 < 8 by omega, show 8 + (i - 8) = i by omega]
  by_cases h24 : i < 24
  · simp [h16, show i - 16 < 8 by omega, show 16 + (i - 16) = i by omega]
  · simp [h16, show ¬ i - 16 < 8 by omega, show i - 16 - 8 < 8 by omega, show 24 + (i - 16 - 8) = i by omega]

@[simp] theorem bytes2_length (h : Half) : (bytes2 h).length = 2 := rfl
@[simp] theorem bytes4_length (w : Word) : (bytes4 w).length = 4 := rfl
@[simp] theorem nat2_length (n : Nat) : (nat2 n).length = 2 := rfl
@[simp] theorem nat4_length (n : Nat) : (nat4 n).length = 4 := rfl

/-! ### Numbers -/

theorem byteOf_toNat {n : Nat} (h : n < 256) : (byteOf n).toNat = n := by
  simp [byteOf, Nat.mod_eq_of_lt h]

@[simp] theorem byteOf_toNat_self (b : Byte) : byteOf b.toNat = b := by
  simp [byteOf]

theorem index?_indexByte {n : Nat} (h : n ≤ 256) (i : Fin n) : index? n (indexByte i) = some i := by
  have : (indexByte i).toNat = i.val := byteOf_toNat (Nat.lt_of_lt_of_le i.isLt h)
  simp [index?, this]

theorem index?_eq_none {n : Nat} {b : Byte} (h : n ≤ b.toNat) : index? n b = none := by
  simp [index?, Nat.not_lt.2 h]

@[simp] theorem yesNo?_yesNo (b : Bool) : yesNo? (yesNo b) = some b := by
  cases b <;> rfl

/-! ### Codes (section 11.6) -/

@[simp] theorem Condition.ofCode?_code (c : Condition) : Condition.ofCode? c.code = some c := by cases c <;> rfl
@[simp] theorem SourceMode.ofCode?_code (c : SourceMode) : SourceMode.ofCode? c.code = some c := by cases c <;> rfl
@[simp] theorem Rate.ofCode?_code (c : Rate) : Rate.ofCode? c.code = some c := by cases c <;> rfl
@[simp] theorem DataBits.ofCode?_code (c : DataBits) : DataBits.ofCode? c.code = some c := by cases c <;> rfl
@[simp] theorem Parity.ofCode?_code (c : Parity) : Parity.ofCode? c.code = some c := by cases c <;> rfl
@[simp] theorem Domain.ofCode?_code (c : Domain) : Domain.ofCode? c.code = some c := by cases c <;> rfl
@[simp] theorem ErrorKind.ofCode?_code (c : ErrorKind) : ErrorKind.ofCode? c.code = some c := by cases c <;> rfl
@[simp] theorem Selection.ofCode?_code (c : Selection) : Selection.ofCode? c.code = some c := by cases c <;> rfl
@[simp] theorem WakeMode.ofCode?_code (c : WakeMode) : WakeMode.ofCode? c.code = some c := by cases c <;> rfl
@[simp] theorem Gate.ofCode?_code (c : Gate) : Gate.ofCode? c.code = some c := by cases c <;> rfl

/-! A byte that a field takes is the code of what it names (R183): no other byte is taken. -/

theorem Condition.ofCode?_eq_some {b : Byte} {c : Condition} (h : Condition.ofCode? b = some c) : b = c.code := by
  unfold Condition.ofCode? at h
  (repeat' split at h) <;> cases h <;> assumption
theorem SourceMode.ofCode?_eq_some {b : Byte} {c : SourceMode} (h : SourceMode.ofCode? b = some c) : b = c.code := by
  unfold SourceMode.ofCode? at h
  (repeat' split at h) <;> cases h <;> assumption
theorem Rate.ofCode?_eq_some {b : Byte} {c : Rate} (h : Rate.ofCode? b = some c) : b = c.code := by
  unfold Rate.ofCode? at h
  (repeat' split at h) <;> cases h <;> assumption
theorem DataBits.ofCode?_eq_some {b : Byte} {c : DataBits} (h : DataBits.ofCode? b = some c) : b = c.code := by
  unfold DataBits.ofCode? at h
  (repeat' split at h) <;> cases h <;> assumption
theorem Parity.ofCode?_eq_some {b : Byte} {c : Parity} (h : Parity.ofCode? b = some c) : b = c.code := by
  unfold Parity.ofCode? at h
  (repeat' split at h) <;> cases h <;> assumption
theorem Domain.ofCode?_eq_some {b : Byte} {c : Domain} (h : Domain.ofCode? b = some c) : b = c.code := by
  unfold Domain.ofCode? at h
  (repeat' split at h) <;> cases h <;> assumption
theorem ErrorKind.ofCode?_eq_some {b : Byte} {c : ErrorKind} (h : ErrorKind.ofCode? b = some c) : b = c.code := by
  unfold ErrorKind.ofCode? at h
  (repeat' split at h) <;> cases h <;> assumption
theorem Selection.ofCode?_eq_some {b : Byte} {c : Selection} (h : Selection.ofCode? b = some c) : b = c.code := by
  unfold Selection.ofCode? at h
  (repeat' split at h) <;> cases h <;> assumption
theorem WakeMode.ofCode?_eq_some {b : Byte} {c : WakeMode} (h : WakeMode.ofCode? b = some c) : b = c.code := by
  unfold WakeMode.ofCode? at h
  (repeat' split at h) <;> cases h <;> assumption
theorem Gate.ofCode?_eq_some {b : Byte} {c : Gate} (h : Gate.ofCode? b = some c) : b = c.code := by
  unfold Gate.ofCode? at h
  (repeat' split at h) <;> cases h <;> assumption
@[simp] theorem contactPolarity?_code (c : Polarity) : contactPolarity? (contactPolarityCode c) = some c := by
  cases c <;> rfl
@[simp] theorem wakePolarity?_code (c : Polarity) : wakePolarity? (wakePolarityCode c) = some c := by cases c <;> rfl

/-! ### Sets (R185) -/

@[simp] theorem sourceSet?_setWidth (set : BitVec 7) : sourceSet? (set.setWidth 8) = some set := by
  have h : (set.setWidth 8).getLsbD 7 = false := by simp
  have e : (set.setWidth 8).setWidth 7 = set := by
    apply BitVec.eq_of_getLsbD_eq
    intro i hi
    simp [hi]
  unfold sourceSet?
  rw [h, e]
  rfl

@[simp] theorem outputSet?_setWidth (set : BitVec 4) : outputSet? (set.setWidth 8) = some set := by
  have h : ∀ x : BitVec 4, x.setWidth 8 &&& 0xF0#8 = 0 := by decide
  have e : ∀ x : BitVec 4, (x.setWidth 8).setWidth 4 = x := by decide
  have h' : set.setWidth 8 &&& 0xF0 = 0 := h set
  unfold outputSet?
  rw [if_pos h', e]

/-! ### Pairs -/

/-- Pairs written one after the other are read back as the pairs. -/
theorem pairs?_flatMap (ps : List (Byte × Byte)) : pairs? ps.length (ps.flatMap fun p => [p.1, p.2]) = some ps := by
  induction ps with
  | nil => rfl
  | cons p ps ih => simp [pairs?, ih]

end Sys2Proof.Machine
end

