-- ==== Sys2Proof/Laws/State.lean ====
section
/-! SUPPORT. Laws/State.lean: for each plain update of the state, one lemma per field: what it writes, and that it writes
nothing else. -/
namespace Sys2Proof.Machine

/-! ### State.offer -/

@[simp] theorem State.offer_patterns (s : State) (b : RecordBody) : (s.offer b).patterns = s.patterns := rfl
@[simp] theorem State.offer_trackers (s : State) (b : RecordBody) : (s.offer b).trackers = s.trackers := rfl
@[simp] theorem State.offer_holdoffs (s : State) (b : RecordBody) : (s.offer b).holdoffs = s.holdoffs := rfl
@[simp] theorem State.offer_shortFlags (s : State) (b : RecordBody) : (s.offer b).shortFlags = s.shortFlags := rfl
@[simp] theorem State.offer_latchRequests (s : State) (b : RecordBody) :
    (s.offer b).latchRequests = s.latchRequests := rfl
@[simp] theorem State.offer_sources (s : State) (b : RecordBody) : (s.offer b).sources = s.sources := rfl
@[simp] theorem State.offer_serials (s : State) (b : RecordBody) : (s.offer b).serials = s.serials := rfl
@[simp] theorem State.offer_contacts (s : State) (b : RecordBody) : (s.offer b).contacts = s.contacts := rfl
@[simp] theorem State.offer_injectors (s : State) (b : RecordBody) : (s.offer b).injectors = s.injectors := rfl
@[simp] theorem State.offer_queue (s : State) (b : RecordBody) : (s.offer b).queue = s.queue.offer s.clock b := rfl
@[simp] theorem State.offer_wakes (s : State) (b : RecordBody) : (s.offer b).wakes = s.wakes := rfl
@[simp] theorem State.offer_power (s : State) (b : RecordBody) : (s.offer b).power = s.power := rfl
@[simp] theorem State.offer_link (s : State) (b : RecordBody) : (s.offer b).link = s.link := rfl
@[simp] theorem State.offer_session (s : State) (b : RecordBody) : (s.offer b).session = s.session := rfl
@[simp] theorem State.offer_clock (s : State) (b : RecordBody) : (s.offer b).clock = s.clock := rfl
@[simp] theorem State.offer_resetHeld (s : State) (b : RecordBody) : (s.offer b).resetHeld = s.resetHeld := rfl
@[simp] theorem State.offer_pins (s : State) (b : RecordBody) : (s.offer b).pins = s.pins := rfl
@[simp] theorem State.offer_choices (s : State) (b : RecordBody) : (s.offer b).choices = s.choices := rfl
@[simp] theorem State.offer_pending (s : State) (b : RecordBody) : (s.offer b).pending = s.pending := rfl

/-! ### State.releaseTrackers -/

@[simp] theorem State.releaseTrackers_patterns (s : State) (p : Tracker → Bool) :
    (s.releaseTrackers p).patterns = s.patterns := rfl
@[simp] theorem State.releaseTrackers_trackers (s : State) (p : Tracker → Bool) :
    (s.releaseTrackers p).trackers = s.trackers.map fun slot => slot.filter fun t => !p t := rfl
@[simp] theorem State.releaseTrackers_holdoffs (s : State) (p : Tracker → Bool) :
    (s.releaseTrackers p).holdoffs = s.holdoffs := rfl
@[simp] theorem State.releaseTrackers_shortFlags (s : State) (p : Tracker → Bool) :
    (s.releaseTrackers p).shortFlags = s.shortFlags := rfl
@[simp] theorem State.releaseTrackers_latchRequests (s : State) (p : Tracker → Bool) :
    (s.releaseTrackers p).latchRequests = s.latchRequests := rfl
@[simp] theorem State.releaseTrackers_sources (s : State) (p : Tracker → Bool) :
    (s.releaseTrackers p).sources = s.sources := rfl
@[simp] theorem State.releaseTrackers_serials (s : State) (p : Tracker → Bool) :
    (s.releaseTrackers p).serials = s.serials := rfl
@[simp] theorem State.releaseTrackers_contacts (s : State) (p : Tracker → Bool) :
    (s.releaseTrackers p).contacts = s.contacts := rfl
@[simp] theorem State.releaseTrackers_injectors (s : State) (p : Tracker → Bool) :
    (s.releaseTrackers p).injectors = s.injectors := rfl
@[simp] theorem State.releaseTrackers_queue (s : State) (p : Tracker → Bool) :
    (s.releaseTrackers p).queue = s.queue := rfl
@[simp] theorem State.releaseTrackers_wakes (s : State) (p : Tracker → Bool) :
    (s.releaseTrackers p).wakes = s.wakes := rfl
@[simp] theorem State.releaseTrackers_power (s : State) (p : Tracker → Bool) :
    (s.releaseTrackers p).power = s.power := rfl
@[simp] theorem State.releaseTrackers_link (s : State) (p : Tracker → Bool) :
    (s.releaseTrackers p).link = s.link := rfl
@[simp] theorem State.releaseTrackers_session (s : State) (p : Tracker → Bool) :
    (s.releaseTrackers p).session = s.session := rfl
@[simp] theorem State.releaseTrackers_clock (s : State) (p : Tracker → Bool) :
    (s.releaseTrackers p).clock = s.clock := rfl
@[simp] theorem State.releaseTrackers_resetHeld (s : State) (p : Tracker → Bool) :
    (s.releaseTrackers p).resetHeld = s.resetHeld := rfl
@[simp] theorem State.releaseTrackers_pins (s : State) (p : Tracker → Bool) :
    (s.releaseTrackers p).pins = s.pins := rfl
@[simp] theorem State.releaseTrackers_choices (s : State) (p : Tracker → Bool) :
    (s.releaseTrackers p).choices = s.choices := rfl
@[simp] theorem State.releaseTrackers_pending (s : State) (p : Tracker → Bool) :
    (s.releaseTrackers p).pending = s.pending := rfl

/-! ### State.clearPatternHoldoffs -/

@[simp] theorem State.clearPatternHoldoffs_patterns (s : State) (p : PatternId) :
    (s.clearPatternHoldoffs p).patterns = s.patterns := rfl
@[simp] theorem State.clearPatternHoldoffs_trackers (s : State) (p : PatternId) :
    (s.clearPatternHoldoffs p).trackers = s.trackers := rfl
@[simp] theorem State.clearPatternHoldoffs_holdoffs (s : State) (p : PatternId) :
    (s.clearPatternHoldoffs p).holdoffs = s.holdoffs.set p (Table.fill 7 none) := rfl
@[simp] theorem State.clearPatternHoldoffs_shortFlags (s : State) (p : PatternId) :
    (s.clearPatternHoldoffs p).shortFlags = s.shortFlags := rfl
@[simp] theorem State.clearPatternHoldoffs_latchRequests (s : State) (p : PatternId) :
    (s.clearPatternHoldoffs p).latchRequests = s.latchRequests := rfl
@[simp] theorem State.clearPatternHoldoffs_sources (s : State) (p : PatternId) :
    (s.clearPatternHoldoffs p).sources = s.sources := rfl
@[simp] theorem State.clearPatternHoldoffs_serials (s : State) (p : PatternId) :
    (s.clearPatternHoldoffs p).serials = s.serials := rfl
@[simp] theorem State.clearPatternHoldoffs_contacts (s : State) (p : PatternId) :
    (s.clearPatternHoldoffs p).contacts = s.contacts := rfl
@[simp] theorem State.clearPatternHoldoffs_injectors (s : State) (p : PatternId) :
    (s.clearPatternHoldoffs p).injectors = s.injectors := rfl
@[simp] theorem State.clearPatternHoldoffs_queue (s : State) (p : PatternId) :
    (s.clearPatternHoldoffs p).queue = s.queue := rfl
@[simp] theorem State.clearPatternHoldoffs_wakes (s : State) (p : PatternId) :
    (s.clearPatternHoldoffs p).wakes = s.wakes := rfl
@[simp] theorem State.clearPatternHoldoffs_power (s : State) (p : PatternId) :
    (s.clearPatternHoldoffs p).power = s.power := rfl
@[simp] theorem State.clearPatternHoldoffs_link (s : State) (p : PatternId) :
    (s.clearPatternHoldoffs p).link = s.link := rfl
@[simp] theorem State.clearPatternHoldoffs_session (s : State) (p : PatternId) :
    (s.clearPatternHoldoffs p).session = s.session := rfl
@[simp] theorem State.clearPatternHoldoffs_clock (s : State) (p : PatternId) :
    (s.clearPatternHoldoffs p).clock = s.clock := rfl
@[simp] theorem State.clearPatternHoldoffs_resetHeld (s : State) (p : PatternId) :
    (s.clearPatternHoldoffs p).resetHeld = s.resetHeld := rfl
@[simp] theorem State.clearPatternHoldoffs_pins (s : State) (p : PatternId) :
    (s.clearPatternHoldoffs p).pins = s.pins := rfl
@[simp] theorem State.clearPatternHoldoffs_choices (s : State) (p : PatternId) :
    (s.clearPatternHoldoffs p).choices = s.choices := rfl
@[simp] theorem State.clearPatternHoldoffs_pending (s : State) (p : PatternId) :
    (s.clearPatternHoldoffs p).pending = s.pending := rfl

/-! ### State.clearSourceHoldoffs -/

@[simp] theorem State.clearSourceHoldoffs_patterns (s : State) (src : SourceId) :
    (s.clearSourceHoldoffs src).patterns = s.patterns := rfl
@[simp] theorem State.clearSourceHoldoffs_trackers (s : State) (src : SourceId) :
    (s.clearSourceHoldoffs src).trackers = s.trackers := rfl
@[simp] theorem State.clearSourceHoldoffs_holdoffs (s : State) (src : SourceId) :
    (s.clearSourceHoldoffs src).holdoffs = s.holdoffs.map fun row => row.set src none := rfl
@[simp] theorem State.clearSourceHoldoffs_shortFlags (s : State) (src : SourceId) :
    (s.clearSourceHoldoffs src).shortFlags = s.shortFlags := rfl
@[simp] theorem State.clearSourceHoldoffs_latchRequests (s : State) (src : SourceId) :
    (s.clearSourceHoldoffs src).latchRequests = s.latchRequests := rfl
@[simp] theorem State.clearSourceHoldoffs_sources (s : State) (src : SourceId) :
    (s.clearSourceHoldoffs src).sources = s.sources := rfl
@[simp] theorem State.clearSourceHoldoffs_serials (s : State) (src : SourceId) :
    (s.clearSourceHoldoffs src).serials = s.serials := rfl
@[simp] theorem State.clearSourceHoldoffs_contacts (s : State) (src : SourceId) :
    (s.clearSourceHoldoffs src).contacts = s.contacts := rfl
@[simp] theorem State.clearSourceHoldoffs_injectors (s : State) (src : SourceId) :
    (s.clearSourceHoldoffs src).injectors = s.injectors := rfl
@[simp] theorem State.clearSourceHoldoffs_queue (s : State) (src : SourceId) :
    (s.clearSourceHoldoffs src).queue = s.queue := rfl
@[simp] theorem State.clearSourceHoldoffs_wakes (s : State) (src : SourceId) :
    (s.clearSourceHoldoffs src).wakes = s.wakes := rfl
@[simp] theorem State.clearSourceHoldoffs_power (s : State) (src : SourceId) :
    (s.clearSourceHoldoffs src).power = s.power := rfl
@[simp] theorem State.clearSourceHoldoffs_link (s : State) (src : SourceId) :
    (s.clearSourceHoldoffs src).link = s.link := rfl
@[simp] theorem State.clearSourceHoldoffs_session (s : State) (src : SourceId) :
    (s.clearSourceHoldoffs src).session = s.session := rfl
@[simp] theorem State.clearSourceHoldoffs_clock (s : State) (src : SourceId) :
    (s.clearSourceHoldoffs src).clock = s.clock := rfl
@[simp] theorem State.clearSourceHoldoffs_resetHeld (s : State) (src : SourceId) :
    (s.clearSourceHoldoffs src).resetHeld = s.resetHeld := rfl
@[simp] theorem State.clearSourceHoldoffs_pins (s : State) (src : SourceId) :
    (s.clearSourceHoldoffs src).pins = s.pins := rfl
@[simp] theorem State.clearSourceHoldoffs_choices (s : State) (src : SourceId) :
    (s.clearSourceHoldoffs src).choices = s.choices := rfl
@[simp] theorem State.clearSourceHoldoffs_pending (s : State) (src : SourceId) :
    (s.clearSourceHoldoffs src).pending = s.pending := rfl

/-! ### State.clearHoldoffsOn -/

@[simp] theorem State.clearHoldoffsOn_patterns (s : State) (set : BitVec 7) :
    (s.clearHoldoffsOn set).patterns = s.patterns := rfl
@[simp] theorem State.clearHoldoffsOn_trackers (s : State) (set : BitVec 7) :
    (s.clearHoldoffsOn set).trackers = s.trackers := rfl
@[simp] theorem State.clearHoldoffsOn_holdoffs (s : State) (set : BitVec 7) :
    (s.clearHoldoffsOn set).holdoffs = s.holdoffs.map fun row =>
      Table.tabulate fun src => if set.getLsbD src.val = true then none else row.get src := rfl
@[simp] theorem State.clearHoldoffsOn_shortFlags (s : State) (set : BitVec 7) :
    (s.clearHoldoffsOn set).shortFlags = s.shortFlags := rfl
@[simp] theorem State.clearHoldoffsOn_latchRequests (s : State) (set : BitVec 7) :
    (s.clearHoldoffsOn set).latchRequests = s.latchRequests := rfl
@[simp] theorem State.clearHoldoffsOn_sources (s : State) (set : BitVec 7) :
    (s.clearHoldoffsOn set).sources = s.sources := rfl
@[simp] theorem State.clearHoldoffsOn_serials (s : State) (set : BitVec 7) :
    (s.clearHoldoffsOn set).serials = s.serials := rfl
@[simp] theorem State.clearHoldoffsOn_contacts (s : State) (set : BitVec 7) :
    (s.clearHoldoffsOn set).contacts = s.contacts := rfl
@[simp] theorem State.clearHoldoffsOn_injectors (s : State) (set : BitVec 7) :
    (s.clearHoldoffsOn set).injectors = s.injectors := rfl
@[simp] theorem State.clearHoldoffsOn_queue (s : State) (set : BitVec 7) :
    (s.clearHoldoffsOn set).queue = s.queue := rfl
@[simp] theorem State.clearHoldoffsOn_wakes (s : State) (set : BitVec 7) :
    (s.clearHoldoffsOn set).wakes = s.wakes := rfl
@[simp] theorem State.clearHoldoffsOn_power (s : State) (set : BitVec 7) :
    (s.clearHoldoffsOn set).power = s.power := rfl
@[simp] theorem State.clearHoldoffsOn_link (s : State) (set : BitVec 7) : (s.clearHoldoffsOn set).link = s.link := rfl
@[simp] theorem State.clearHoldoffsOn_session (s : State) (set : BitVec 7) :
    (s.clearHoldoffsOn set).session = s.session := rfl
@[simp] theorem State.clearHoldoffsOn_clock (s : State) (set : BitVec 7) :
    (s.clearHoldoffsOn set).clock = s.clock := rfl
@[simp] theorem State.clearHoldoffsOn_resetHeld (s : State) (set : BitVec 7) :
    (s.clearHoldoffsOn set).resetHeld = s.resetHeld := rfl
@[simp] theorem State.clearHoldoffsOn_pins (s : State) (set : BitVec 7) : (s.clearHoldoffsOn set).pins = s.pins := rfl
@[simp] theorem State.clearHoldoffsOn_choices (s : State) (set : BitVec 7) :
    (s.clearHoldoffsOn set).choices = s.choices := rfl
@[simp] theorem State.clearHoldoffsOn_pending (s : State) (set : BitVec 7) :
    (s.clearHoldoffsOn set).pending = s.pending := rfl

/-! ### State.enqueueReply -/

@[simp] theorem State.enqueueReply_patterns (s : State) (r : Reply) : (s.enqueueReply r).patterns = s.patterns := rfl
@[simp] theorem State.enqueueReply_trackers (s : State) (r : Reply) : (s.enqueueReply r).trackers = s.trackers := rfl
@[simp] theorem State.enqueueReply_holdoffs (s : State) (r : Reply) : (s.enqueueReply r).holdoffs = s.holdoffs := rfl
@[simp] theorem State.enqueueReply_shortFlags (s : State) (r : Reply) :
    (s.enqueueReply r).shortFlags = s.shortFlags := rfl
@[simp] theorem State.enqueueReply_latchRequests (s : State) (r : Reply) :
    (s.enqueueReply r).latchRequests = s.latchRequests := rfl
@[simp] theorem State.enqueueReply_sources (s : State) (r : Reply) : (s.enqueueReply r).sources = s.sources := rfl
@[simp] theorem State.enqueueReply_serials (s : State) (r : Reply) : (s.enqueueReply r).serials = s.serials := rfl
@[simp] theorem State.enqueueReply_contacts (s : State) (r : Reply) : (s.enqueueReply r).contacts = s.contacts := rfl
@[simp] theorem State.enqueueReply_injectors (s : State) (r : Reply) :
    (s.enqueueReply r).injectors = s.injectors := rfl
@[simp] theorem State.enqueueReply_queue (s : State) (r : Reply) : (s.enqueueReply r).queue = s.queue := rfl
@[simp] theorem State.enqueueReply_wakes (s : State) (r : Reply) : (s.enqueueReply r).wakes = s.wakes := rfl
@[simp] theorem State.enqueueReply_power (s : State) (r : Reply) : (s.enqueueReply r).power = s.power := rfl
@[simp] theorem State.enqueueReply_link (s : State) (r : Reply) :
    (s.enqueueReply r).link = { s.link with replies := s.link.replies ++ [r] } := rfl
@[simp] theorem State.enqueueReply_session (s : State) (r : Reply) : (s.enqueueReply r).session = s.session := rfl
@[simp] theorem State.enqueueReply_clock (s : State) (r : Reply) : (s.enqueueReply r).clock = s.clock := rfl
@[simp] theorem State.enqueueReply_resetHeld (s : State) (r : Reply) :
    (s.enqueueReply r).resetHeld = s.resetHeld := rfl
@[simp] theorem State.enqueueReply_pins (s : State) (r : Reply) : (s.enqueueReply r).pins = s.pins := rfl
@[simp] theorem State.enqueueReply_choices (s : State) (r : Reply) : (s.enqueueReply r).choices = s.choices := rfl
@[simp] theorem State.enqueueReply_pending (s : State) (r : Reply) : (s.enqueueReply r).pending = s.pending := rfl

/-! ### State.freeTrackerAt -/

@[simp] theorem State.freeTrackerAt_patterns (s : State) (i : TrackerId) :
    (s.freeTrackerAt i).patterns = s.patterns := rfl
@[simp] theorem State.freeTrackerAt_trackers (s : State) (i : TrackerId) :
    (s.freeTrackerAt i).trackers = s.trackers.set i none := rfl
@[simp] theorem State.freeTrackerAt_holdoffs (s : State) (i : TrackerId) :
    (s.freeTrackerAt i).holdoffs = s.holdoffs := rfl
@[simp] theorem State.freeTrackerAt_shortFlags (s : State) (i : TrackerId) :
    (s.freeTrackerAt i).shortFlags = s.shortFlags := rfl
@[simp] theorem State.freeTrackerAt_latchRequests (s : State) (i : TrackerId) :
    (s.freeTrackerAt i).latchRequests = s.latchRequests := rfl
@[simp] theorem State.freeTrackerAt_sources (s : State) (i : TrackerId) :
    (s.freeTrackerAt i).sources = s.sources := rfl
@[simp] theorem State.freeTrackerAt_serials (s : State) (i : TrackerId) :
    (s.freeTrackerAt i).serials = s.serials := rfl
@[simp] theorem State.freeTrackerAt_contacts (s : State) (i : TrackerId) :
    (s.freeTrackerAt i).contacts = s.contacts := rfl
@[simp] theorem State.freeTrackerAt_injectors (s : State) (i : TrackerId) :
    (s.freeTrackerAt i).injectors = s.injectors := rfl
@[simp] theorem State.freeTrackerAt_queue (s : State) (i : TrackerId) : (s.freeTrackerAt i).queue = s.queue := rfl
@[simp] theorem State.freeTrackerAt_wakes (s : State) (i : TrackerId) : (s.freeTrackerAt i).wakes = s.wakes := rfl
@[simp] theorem State.freeTrackerAt_power (s : State) (i : TrackerId) : (s.freeTrackerAt i).power = s.power := rfl
@[simp] theorem State.freeTrackerAt_link (s : State) (i : TrackerId) : (s.freeTrackerAt i).link = s.link := rfl
@[simp] theorem State.freeTrackerAt_session (s : State) (i : TrackerId) :
    (s.freeTrackerAt i).session = s.session := rfl
@[simp] theorem State.freeTrackerAt_clock (s : State) (i : TrackerId) : (s.freeTrackerAt i).clock = s.clock := rfl
@[simp] theorem State.freeTrackerAt_resetHeld (s : State) (i : TrackerId) :
    (s.freeTrackerAt i).resetHeld = s.resetHeld := rfl
@[simp] theorem State.freeTrackerAt_pins (s : State) (i : TrackerId) : (s.freeTrackerAt i).pins = s.pins := rfl
@[simp] theorem State.freeTrackerAt_choices (s : State) (i : TrackerId) :
    (s.freeTrackerAt i).choices = s.choices := rfl
@[simp] theorem State.freeTrackerAt_pending (s : State) (i : TrackerId) :
    (s.freeTrackerAt i).pending = s.pending := rfl

/-! ### State.judgeTrackers -/

@[simp] theorem State.judgeTrackers_patterns (s : State) (src : SourceId) (sym : Symbol) :
    (s.judgeTrackers src sym).patterns = s.patterns := rfl
@[simp] theorem State.judgeTrackers_trackers (s : State) (src : SourceId) (sym : Symbol) :
    (s.judgeTrackers src sym).trackers = s.trackers.map fun slot => slot.bind (s.trackerAfter src sym) := rfl
@[simp] theorem State.judgeTrackers_holdoffs (s : State) (src : SourceId) (sym : Symbol) :
    (s.judgeTrackers src sym).holdoffs = (s.usedTrackers.filterMap (s.holdoffOf src sym)).foldl
      (fun h x => setHoldoff h x.1 src (some x.2)) s.holdoffs := rfl
@[simp] theorem State.judgeTrackers_shortFlags (s : State) (src : SourceId) (sym : Symbol) :
    (s.judgeTrackers src sym).shortFlags = s.shortFlags := rfl
@[simp] theorem State.judgeTrackers_latchRequests (s : State) (src : SourceId) (sym : Symbol) :
    (s.judgeTrackers src sym).latchRequests = s.latchRequests := rfl
@[simp] theorem State.judgeTrackers_sources (s : State) (src : SourceId) (sym : Symbol) :
    (s.judgeTrackers src sym).sources = s.sources := rfl
@[simp] theorem State.judgeTrackers_serials (s : State) (src : SourceId) (sym : Symbol) :
    (s.judgeTrackers src sym).serials = s.serials := rfl
@[simp] theorem State.judgeTrackers_contacts (s : State) (src : SourceId) (sym : Symbol) :
    (s.judgeTrackers src sym).contacts = s.contacts := rfl
@[simp] theorem State.judgeTrackers_injectors (s : State) (src : SourceId) (sym : Symbol) :
    (s.judgeTrackers src sym).injectors = s.injectors := rfl
@[simp] theorem State.judgeTrackers_queue (s : State) (src : SourceId) (sym : Symbol) :
    (s.judgeTrackers src sym).queue = s.queue := rfl
@[simp] theorem State.judgeTrackers_wakes (s : State) (src : SourceId) (sym : Symbol) :
    (s.judgeTrackers src sym).wakes = s.wakes := rfl
@[simp] theorem State.judgeTrackers_power (s : State) (src : SourceId) (sym : Symbol) :
    (s.judgeTrackers src sym).power = s.power := rfl
@[simp] theorem State.judgeTrackers_link (s : State) (src : SourceId) (sym : Symbol) :
    (s.judgeTrackers src sym).link = s.link := rfl
@[simp] theorem State.judgeTrackers_session (s : State) (src : SourceId) (sym : Symbol) :
    (s.judgeTrackers src sym).session = s.session := rfl
@[simp] theorem State.judgeTrackers_clock (s : State) (src : SourceId) (sym : Symbol) :
    (s.judgeTrackers src sym).clock = s.clock := rfl
@[simp] theorem State.judgeTrackers_resetHeld (s : State) (src : SourceId) (sym : Symbol) :
    (s.judgeTrackers src sym).resetHeld = s.resetHeld := rfl
@[simp] theorem State.judgeTrackers_pins (s : State) (src : SourceId) (sym : Symbol) :
    (s.judgeTrackers src sym).pins = s.pins := rfl
@[simp] theorem State.judgeTrackers_choices (s : State) (src : SourceId) (sym : Symbol) :
    (s.judgeTrackers src sym).choices = s.choices := rfl
@[simp] theorem State.judgeTrackers_pending (s : State) (src : SourceId) (sym : Symbol) :
    (s.judgeTrackers src sym).pending = s.pending := rfl

/-! ### State.countReceived -/

@[simp] theorem State.countReceived_patterns (s : State) (src : SourceId) :
    (s.countReceived src).patterns = s.patterns := rfl
@[simp] theorem State.countReceived_trackers (s : State) (src : SourceId) :
    (s.countReceived src).trackers = s.trackers := rfl
@[simp] theorem State.countReceived_holdoffs (s : State) (src : SourceId) :
    (s.countReceived src).holdoffs = s.holdoffs := rfl
@[simp] theorem State.countReceived_shortFlags (s : State) (src : SourceId) :
    (s.countReceived src).shortFlags = s.shortFlags := rfl
@[simp] theorem State.countReceived_latchRequests (s : State) (src : SourceId) :
    (s.countReceived src).latchRequests = s.latchRequests := rfl
@[simp] theorem State.countReceived_sources (s : State) (src : SourceId) :
    (s.countReceived src).sources = s.sources.modify src fun c => { c with received := c.received + 1 } := rfl
@[simp] theorem State.countReceived_serials (s : State) (src : SourceId) :
    (s.countReceived src).serials = s.serials := rfl
@[simp] theorem State.countReceived_contacts (s : State) (src : SourceId) :
    (s.countReceived src).contacts = s.contacts := rfl
@[simp] theorem State.countReceived_injectors (s : State) (src : SourceId) :
    (s.countReceived src).injectors = s.injectors := rfl
@[simp] theorem State.countReceived_queue (s : State) (src : SourceId) : (s.countReceived src).queue = s.queue := rfl
@[simp] theorem State.countReceived_wakes (s : State) (src : SourceId) : (s.countReceived src).wakes = s.wakes := rfl
@[simp] theorem State.countReceived_power (s : State) (src : SourceId) : (s.countReceived src).power = s.power := rfl
@[simp] theorem State.countReceived_link (s : State) (src : SourceId) : (s.countReceived src).link = s.link := rfl
@[simp] theorem State.countReceived_session (s : State) (src : SourceId) :
    (s.countReceived src).session = s.session := rfl
@[simp] theorem State.countReceived_clock (s : State) (src : SourceId) : (s.countReceived src).clock = s.clock := rfl
@[simp] theorem State.countReceived_resetHeld (s : State) (src : SourceId) :
    (s.countReceived src).resetHeld = s.resetHeld := rfl
@[simp] theorem State.countReceived_pins (s : State) (src : SourceId) : (s.countReceived src).pins = s.pins := rfl
@[simp] theorem State.countReceived_choices (s : State) (src : SourceId) :
    (s.countReceived src).choices = s.choices := rfl
@[simp] theorem State.countReceived_pending (s : State) (src : SourceId) :
    (s.countReceived src).pending = s.pending := rfl

/-! ### State.setSourceState -/

@[simp] theorem State.setSourceState_patterns (s : State) (src : SourceId) (st : SourceState) :
    (s.setSourceState src st).patterns = s.patterns := rfl
@[simp] theorem State.setSourceState_trackers (s : State) (src : SourceId) (st : SourceState) :
    (s.setSourceState src st).trackers = s.trackers := rfl
@[simp] theorem State.setSourceState_holdoffs (s : State) (src : SourceId) (st : SourceState) :
    (s.setSourceState src st).holdoffs = s.holdoffs := rfl
@[simp] theorem State.setSourceState_shortFlags (s : State) (src : SourceId) (st : SourceState) :
    (s.setSourceState src st).shortFlags = s.shortFlags := rfl
@[simp] theorem State.setSourceState_latchRequests (s : State) (src : SourceId) (st : SourceState) :
    (s.setSourceState src st).latchRequests = s.latchRequests := rfl
@[simp] theorem State.setSourceState_sources (s : State) (src : SourceId) (st : SourceState) :
    (s.setSourceState src st).sources = s.sources.modify src fun c => { c with state := st } := rfl
@[simp] theorem State.setSourceState_serials (s : State) (src : SourceId) (st : SourceState) :
    (s.setSourceState src st).serials = s.serials := rfl
@[simp] theorem State.setSourceState_contacts (s : State) (src : SourceId) (st : SourceState) :
    (s.setSourceState src st).contacts = s.contacts := rfl
@[simp] theorem State.setSourceState_injectors (s : State) (src : SourceId) (st : SourceState) :
    (s.setSourceState src st).injectors = s.injectors := rfl
@[simp] theorem State.setSourceState_queue (s : State) (src : SourceId) (st : SourceState) :
    (s.setSourceState src st).queue = s.queue := rfl
@[simp] theorem State.setSourceState_wakes (s : State) (src : SourceId) (st : SourceState) :
    (s.setSourceState src st).wakes = s.wakes := rfl
@[simp] theorem State.setSourceState_power (s : State) (src : SourceId) (st : SourceState) :
    (s.setSourceState src st).power = s.power := rfl
@[simp] theorem State.setSourceState_link (s : State) (src : SourceId) (st : SourceState) :
    (s.setSourceState src st).link = s.link := rfl
@[simp] theorem State.setSourceState_session (s : State) (src : SourceId) (st : SourceState) :
    (s.setSourceState src st).session = s.session := rfl
@[simp] theorem State.setSourceState_clock (s : State) (src : SourceId) (st : SourceState) :
    (s.setSourceState src st).clock = s.clock := rfl
@[simp] theorem State.setSourceState_resetHeld (s : State) (src : SourceId) (st : SourceState) :
    (s.setSourceState src st).resetHeld = s.resetHeld := rfl
@[simp] theorem State.setSourceState_pins (s : State) (src : SourceId) (st : SourceState) :
    (s.setSourceState src st).pins = s.pins := rfl
@[simp] theorem State.setSourceState_choices (s : State) (src : SourceId) (st : SourceState) :
    (s.setSourceState src st).choices = s.choices := rfl
@[simp] theorem State.setSourceState_pending (s : State) (src : SourceId) (st : SourceState) :
    (s.setSourceState src st).pending = s.pending := rfl

/-! ### State.setLine -/

@[simp] theorem State.setLine_patterns (s : State) (i : SerialId) (l : Level) :
    (s.setLine i l).patterns = s.patterns := rfl
@[simp] theorem State.setLine_trackers (s : State) (i : SerialId) (l : Level) :
    (s.setLine i l).trackers = s.trackers := rfl
@[simp] theorem State.setLine_holdoffs (s : State) (i : SerialId) (l : Level) :
    (s.setLine i l).holdoffs = s.holdoffs := rfl
@[simp] theorem State.setLine_shortFlags (s : State) (i : SerialId) (l : Level) :
    (s.setLine i l).shortFlags = s.shortFlags := rfl
@[simp] theorem State.setLine_latchRequests (s : State) (i : SerialId) (l : Level) :
    (s.setLine i l).latchRequests = s.latchRequests := rfl
@[simp] theorem State.setLine_sources (s : State) (i : SerialId) (l : Level) :
    (s.setLine i l).sources = s.sources := rfl
@[simp] theorem State.setLine_serials (s : State) (i : SerialId) (l : Level) :
    (s.setLine i l).serials = s.serials := rfl
@[simp] theorem State.setLine_contacts (s : State) (i : SerialId) (l : Level) :
    (s.setLine i l).contacts = s.contacts := rfl
@[simp] theorem State.setLine_injectors (s : State) (i : SerialId) (l : Level) :
    (s.setLine i l).injectors = s.injectors := rfl
@[simp] theorem State.setLine_queue (s : State) (i : SerialId) (l : Level) : (s.setLine i l).queue = s.queue := rfl
@[simp] theorem State.setLine_wakes (s : State) (i : SerialId) (l : Level) : (s.setLine i l).wakes = s.wakes := rfl
@[simp] theorem State.setLine_power (s : State) (i : SerialId) (l : Level) : (s.setLine i l).power = s.power := rfl
@[simp] theorem State.setLine_link (s : State) (i : SerialId) (l : Level) : (s.setLine i l).link = s.link := rfl
@[simp] theorem State.setLine_session (s : State) (i : SerialId) (l : Level) :
    (s.setLine i l).session = s.session := rfl
@[simp] theorem State.setLine_clock (s : State) (i : SerialId) (l : Level) : (s.setLine i l).clock = s.clock := rfl
@[simp] theorem State.setLine_resetHeld (s : State) (i : SerialId) (l : Level) :
    (s.setLine i l).resetHeld = s.resetHeld := rfl
@[simp] theorem State.setLine_pins (s : State) (i : SerialId) (l : Level) :
    (s.setLine i l).pins = { s.pins with lines := s.pins.lines.set i l } := rfl
@[simp] theorem State.setLine_choices (s : State) (i : SerialId) (l : Level) :
    (s.setLine i l).choices = s.choices := rfl
@[simp] theorem State.setLine_pending (s : State) (i : SerialId) (l : Level) :
    (s.setLine i l).pending = s.pending := rfl

/-! ### State.setContactPin -/

@[simp] theorem State.setContactPin_patterns (s : State) (k : ContactId) (l : Level) :
    (s.setContactPin k l).patterns = s.patterns := rfl
@[simp] theorem State.setContactPin_trackers (s : State) (k : ContactId) (l : Level) :
    (s.setContactPin k l).trackers = s.trackers := rfl
@[simp] theorem State.setContactPin_holdoffs (s : State) (k : ContactId) (l : Level) :
    (s.setContactPin k l).holdoffs = s.holdoffs := rfl
@[simp] theorem State.setContactPin_shortFlags (s : State) (k : ContactId) (l : Level) :
    (s.setContactPin k l).shortFlags = s.shortFlags := rfl
@[simp] theorem State.setContactPin_latchRequests (s : State) (k : ContactId) (l : Level) :
    (s.setContactPin k l).latchRequests = s.latchRequests := rfl
@[simp] theorem State.setContactPin_sources (s : State) (k : ContactId) (l : Level) :
    (s.setContactPin k l).sources = s.sources := rfl
@[simp] theorem State.setContactPin_serials (s : State) (k : ContactId) (l : Level) :
    (s.setContactPin k l).serials = s.serials := rfl
@[simp] theorem State.setContactPin_contacts (s : State) (k : ContactId) (l : Level) :
    (s.setContactPin k l).contacts = s.contacts := rfl
@[simp] theorem State.setContactPin_injectors (s : State) (k : ContactId) (l : Level) :
    (s.setContactPin k l).injectors = s.injectors := rfl
@[simp] theorem State.setContactPin_queue (s : State) (k : ContactId) (l : Level) :
    (s.setContactPin k l).queue = s.queue := rfl
@[simp] theorem State.setContactPin_wakes (s : State) (k : ContactId) (l : Level) :
    (s.setContactPin k l).wakes = s.wakes := rfl
@[simp] theorem State.setContactPin_power (s : State) (k : ContactId) (l : Level) :
    (s.setContactPin k l).power = s.power := rfl
@[simp] theorem State.setContactPin_link (s : State) (k : ContactId) (l : Level) :
    (s.setContactPin k l).link = s.link := rfl
@[simp] theorem State.setContactPin_session (s : State) (k : ContactId) (l : Level) :
    (s.setContactPin k l).session = s.session := rfl
@[simp] theorem State.setContactPin_clock (s : State) (k : ContactId) (l : Level) :
    (s.setContactPin k l).clock = s.clock := rfl
@[simp] theorem State.setContactPin_resetHeld (s : State) (k : ContactId) (l : Level) :
    (s.setContactPin k l).resetHeld = s.resetHeld := rfl
@[simp] theorem State.setContactPin_pins (s : State) (k : ContactId) (l : Level) :
    (s.setContactPin k l).pins = { s.pins with contacts := s.pins.contacts.set k l } := rfl
@[simp] theorem State.setContactPin_choices (s : State) (k : ContactId) (l : Level) :
    (s.setContactPin k l).choices = s.choices := rfl
@[simp] theorem State.setContactPin_pending (s : State) (k : ContactId) (l : Level) :
    (s.setContactPin k l).pending = s.pending := rfl

/-! ### State.setDebounce -/

@[simp] theorem State.setDebounce_patterns (s : State) (k : ContactId) (t : Timer) :
    (s.setDebounce k t).patterns = s.patterns := rfl
@[simp] theorem State.setDebounce_trackers (s : State) (k : ContactId) (t : Timer) :
    (s.setDebounce k t).trackers = s.trackers := rfl
@[simp] theorem State.setDebounce_holdoffs (s : State) (k : ContactId) (t : Timer) :
    (s.setDebounce k t).holdoffs = s.holdoffs := rfl
@[simp] theorem State.setDebounce_shortFlags (s : State) (k : ContactId) (t : Timer) :
    (s.setDebounce k t).shortFlags = s.shortFlags := rfl
@[simp] theorem State.setDebounce_latchRequests (s : State) (k : ContactId) (t : Timer) :
    (s.setDebounce k t).latchRequests = s.latchRequests := rfl
@[simp] theorem State.setDebounce_sources (s : State) (k : ContactId) (t : Timer) :
    (s.setDebounce k t).sources = s.sources := rfl
@[simp] theorem State.setDebounce_serials (s : State) (k : ContactId) (t : Timer) :
    (s.setDebounce k t).serials = s.serials := rfl
@[simp] theorem State.setDebounce_contacts (s : State) (k : ContactId) (t : Timer) :
    (s.setDebounce k t).contacts = s.contacts.modify k fun c => { c with timer := t } := rfl
@[simp] theorem State.setDebounce_injectors (s : State) (k : ContactId) (t : Timer) :
    (s.setDebounce k t).injectors = s.injectors := rfl
@[simp] theorem State.setDebounce_queue (s : State) (k : ContactId) (t : Timer) :
    (s.setDebounce k t).queue = s.queue := rfl
@[simp] theorem State.setDebounce_wakes (s : State) (k : ContactId) (t : Timer) :
    (s.setDebounce k t).wakes = s.wakes := rfl
@[simp] theorem State.setDebounce_power (s : State) (k : ContactId) (t : Timer) :
    (s.setDebounce k t).power = s.power := rfl
@[simp] theorem State.setDebounce_link (s : State) (k : ContactId) (t : Timer) :
    (s.setDebounce k t).link = s.link := rfl
@[simp] theorem State.setDebounce_session (s : State) (k : ContactId) (t : Timer) :
    (s.setDebounce k t).session = s.session := rfl
@[simp] theorem State.setDebounce_clock (s : State) (k : ContactId) (t : Timer) :
    (s.setDebounce k t).clock = s.clock := rfl
@[simp] theorem State.setDebounce_resetHeld (s : State) (k : ContactId) (t : Timer) :
    (s.setDebounce k t).resetHeld = s.resetHeld := rfl
@[simp] theorem State.setDebounce_pins (s : State) (k : ContactId) (t : Timer) :
    (s.setDebounce k t).pins = s.pins := rfl
@[simp] theorem State.setDebounce_choices (s : State) (k : ContactId) (t : Timer) :
    (s.setDebounce k t).choices = s.choices := rfl
@[simp] theorem State.setDebounce_pending (s : State) (k : ContactId) (t : Timer) :
    (s.setDebounce k t).pending = s.pending := rfl

/-! ### State.setEntry -/

@[simp] theorem State.setEntry_patterns (s : State) (p : PatternId) (e : Option Entry) :
    (s.setEntry p e).patterns = s.patterns.set p e := rfl
@[simp] theorem State.setEntry_trackers (s : State) (p : PatternId) (e : Option Entry) :
    (s.setEntry p e).trackers = s.trackers := rfl
@[simp] theorem State.setEntry_holdoffs (s : State) (p : PatternId) (e : Option Entry) :
    (s.setEntry p e).holdoffs = s.holdoffs := rfl
@[simp] theorem State.setEntry_shortFlags (s : State) (p : PatternId) (e : Option Entry) :
    (s.setEntry p e).shortFlags = s.shortFlags := rfl
@[simp] theorem State.setEntry_latchRequests (s : State) (p : PatternId) (e : Option Entry) :
    (s.setEntry p e).latchRequests = s.latchRequests := rfl
@[simp] theorem State.setEntry_sources (s : State) (p : PatternId) (e : Option Entry) :
    (s.setEntry p e).sources = s.sources := rfl
@[simp] theorem State.setEntry_serials (s : State) (p : PatternId) (e : Option Entry) :
    (s.setEntry p e).serials = s.serials := rfl
@[simp] theorem State.setEntry_contacts (s : State) (p : PatternId) (e : Option Entry) :
    (s.setEntry p e).contacts = s.contacts := rfl
@[simp] theorem State.setEntry_injectors (s : State) (p : PatternId) (e : Option Entry) :
    (s.setEntry p e).injectors = s.injectors := rfl
@[simp] theorem State.setEntry_queue (s : State) (p : PatternId) (e : Option Entry) :
    (s.setEntry p e).queue = s.queue := rfl
@[simp] theorem State.setEntry_wakes (s : State) (p : PatternId) (e : Option Entry) :
    (s.setEntry p e).wakes = s.wakes := rfl
@[simp] theorem State.setEntry_power (s : State) (p : PatternId) (e : Option Entry) :
    (s.setEntry p e).power = s.power := rfl
@[simp] theorem State.setEntry_link (s : State) (p : PatternId) (e : Option Entry) :
    (s.setEntry p e).link = s.link := rfl
@[simp] theorem State.setEntry_session (s : State) (p : PatternId) (e : Option Entry) :
    (s.setEntry p e).session = s.session := rfl
@[simp] theorem State.setEntry_clock (s : State) (p : PatternId) (e : Option Entry) :
    (s.setEntry p e).clock = s.clock := rfl
@[simp] theorem State.setEntry_resetHeld (s : State) (p : PatternId) (e : Option Entry) :
    (s.setEntry p e).resetHeld = s.resetHeld := rfl
@[simp] theorem State.setEntry_pins (s : State) (p : PatternId) (e : Option Entry) :
    (s.setEntry p e).pins = s.pins := rfl
@[simp] theorem State.setEntry_choices (s : State) (p : PatternId) (e : Option Entry) :
    (s.setEntry p e).choices = s.choices := rfl
@[simp] theorem State.setEntry_pending (s : State) (p : PatternId) (e : Option Entry) :
    (s.setEntry p e).pending = s.pending := rfl

/-! ### State.autoClear -/

@[simp] theorem State.autoClear_patterns (s : State) : (s.autoClear).patterns = s.patterns := rfl
@[simp] theorem State.autoClear_trackers (s : State) : (s.autoClear).trackers = s.trackers := rfl
@[simp] theorem State.autoClear_holdoffs (s : State) : (s.autoClear).holdoffs = s.holdoffs := rfl
@[simp] theorem State.autoClear_shortFlags (s : State) : (s.autoClear).shortFlags = s.shortFlags := rfl
@[simp] theorem State.autoClear_latchRequests (s : State) : (s.autoClear).latchRequests = s.latchRequests := rfl
@[simp] theorem State.autoClear_sources (s : State) : (s.autoClear).sources = s.sources := rfl
@[simp] theorem State.autoClear_serials (s : State) : (s.autoClear).serials = s.serials := rfl
@[simp] theorem State.autoClear_contacts (s : State) : (s.autoClear).contacts = s.contacts := rfl
@[simp] theorem State.autoClear_injectors (s : State) : (s.autoClear).injectors = s.injectors := rfl
@[simp] theorem State.autoClear_queue (s : State) : (s.autoClear).queue = s.queue := rfl
@[simp] theorem State.autoClear_wakes (s : State) :
    (s.autoClear).wakes = s.wakes.map fun w => if w.config.autoClear = true then w.cleared else w := rfl
@[simp] theorem State.autoClear_power (s : State) : (s.autoClear).power = s.power := rfl
@[simp] theorem State.autoClear_link (s : State) : (s.autoClear).link = s.link := rfl
@[simp] theorem State.autoClear_session (s : State) : (s.autoClear).session = s.session := rfl
@[simp] theorem State.autoClear_clock (s : State) : (s.autoClear).clock = s.clock := rfl
@[simp] theorem State.autoClear_resetHeld (s : State) : (s.autoClear).resetHeld = s.resetHeld := rfl
@[simp] theorem State.autoClear_pins (s : State) : (s.autoClear).pins = s.pins := rfl
@[simp] theorem State.autoClear_choices (s : State) : (s.autoClear).choices = s.choices := rfl
@[simp] theorem State.autoClear_pending (s : State) : (s.autoClear).pending = s.pending := rfl

/-! ### State.wakesFollow -/

@[simp] theorem State.wakesFollow_patterns (s : State) (p : HostPower) :
    (s.wakesFollow p).patterns = s.patterns := rfl
@[simp] theorem State.wakesFollow_trackers (s : State) (p : HostPower) :
    (s.wakesFollow p).trackers = s.trackers := rfl
@[simp] theorem State.wakesFollow_holdoffs (s : State) (p : HostPower) :
    (s.wakesFollow p).holdoffs = s.holdoffs := rfl
@[simp] theorem State.wakesFollow_shortFlags (s : State) (p : HostPower) :
    (s.wakesFollow p).shortFlags = s.shortFlags := rfl
@[simp] theorem State.wakesFollow_latchRequests (s : State) (p : HostPower) :
    (s.wakesFollow p).latchRequests = s.latchRequests := rfl
@[simp] theorem State.wakesFollow_sources (s : State) (p : HostPower) : (s.wakesFollow p).sources = s.sources := rfl
@[simp] theorem State.wakesFollow_serials (s : State) (p : HostPower) : (s.wakesFollow p).serials = s.serials := rfl
@[simp] theorem State.wakesFollow_contacts (s : State) (p : HostPower) :
    (s.wakesFollow p).contacts = s.contacts := rfl
@[simp] theorem State.wakesFollow_injectors (s : State) (p : HostPower) :
    (s.wakesFollow p).injectors = s.injectors := rfl
@[simp] theorem State.wakesFollow_queue (s : State) (p : HostPower) : (s.wakesFollow p).queue = s.queue := rfl
@[simp] theorem State.wakesFollow_wakes (s : State) (p : HostPower) :
    (s.wakesFollow p).wakes = s.wakes.map (Wake.gateChange p) := rfl
@[simp] theorem State.wakesFollow_power (s : State) (p : HostPower) : (s.wakesFollow p).power = s.power := rfl
@[simp] theorem State.wakesFollow_link (s : State) (p : HostPower) : (s.wakesFollow p).link = s.link := rfl
@[simp] theorem State.wakesFollow_session (s : State) (p : HostPower) : (s.wakesFollow p).session = s.session := rfl
@[simp] theorem State.wakesFollow_clock (s : State) (p : HostPower) : (s.wakesFollow p).clock = s.clock := rfl
@[simp] theorem State.wakesFollow_resetHeld (s : State) (p : HostPower) :
    (s.wakesFollow p).resetHeld = s.resetHeld := rfl
@[simp] theorem State.wakesFollow_pins (s : State) (p : HostPower) : (s.wakesFollow p).pins = s.pins := rfl
@[simp] theorem State.wakesFollow_choices (s : State) (p : HostPower) : (s.wakesFollow p).choices = s.choices := rfl
@[simp] theorem State.wakesFollow_pending (s : State) (p : HostPower) : (s.wakesFollow p).pending = s.pending := rfl

/-! ### State.updateSession -/

@[simp] theorem State.updateSession_patterns (s : State) (f : OpenSession → OpenSession) :
    (s.updateSession f).patterns = s.patterns := rfl
@[simp] theorem State.updateSession_trackers (s : State) (f : OpenSession → OpenSession) :
    (s.updateSession f).trackers = s.trackers := rfl
@[simp] theorem State.updateSession_holdoffs (s : State) (f : OpenSession → OpenSession) :
    (s.updateSession f).holdoffs = s.holdoffs := rfl
@[simp] theorem State.updateSession_shortFlags (s : State) (f : OpenSession → OpenSession) :
    (s.updateSession f).shortFlags = s.shortFlags := rfl
@[simp] theorem State.updateSession_latchRequests (s : State) (f : OpenSession → OpenSession) :
    (s.updateSession f).latchRequests = s.latchRequests := rfl
@[simp] theorem State.updateSession_sources (s : State) (f : OpenSession → OpenSession) :
    (s.updateSession f).sources = s.sources := rfl
@[simp] theorem State.updateSession_serials (s : State) (f : OpenSession → OpenSession) :
    (s.updateSession f).serials = s.serials := rfl
@[simp] theorem State.updateSession_contacts (s : State) (f : OpenSession → OpenSession) :
    (s.updateSession f).contacts = s.contacts := rfl
@[simp] theorem State.updateSession_injectors (s : State) (f : OpenSession → OpenSession) :
    (s.updateSession f).injectors = s.injectors := rfl
@[simp] theorem State.updateSession_queue (s : State) (f : OpenSession → OpenSession) :
    (s.updateSession f).queue = s.queue := rfl
@[simp] theorem State.updateSession_wakes (s : State) (f : OpenSession → OpenSession) :
    (s.updateSession f).wakes = s.wakes := rfl
@[simp] theorem State.updateSession_power (s : State) (f : OpenSession → OpenSession) :
    (s.updateSession f).power = s.power := rfl
@[simp] theorem State.updateSession_link (s : State) (f : OpenSession → OpenSession) :
    (s.updateSession f).link = s.link := rfl
@[simp] theorem State.updateSession_session (s : State) (f : OpenSession → OpenSession) :
    (s.updateSession f).session = { s.session with opened := s.session.opened.map f } := rfl
@[simp] theorem State.updateSession_clock (s : State) (f : OpenSession → OpenSession) :
    (s.updateSession f).clock = s.clock := rfl
@[simp] theorem State.updateSession_resetHeld (s : State) (f : OpenSession → OpenSession) :
    (s.updateSession f).resetHeld = s.resetHeld := rfl
@[simp] theorem State.updateSession_pins (s : State) (f : OpenSession → OpenSession) :
    (s.updateSession f).pins = s.pins := rfl
@[simp] theorem State.updateSession_choices (s : State) (f : OpenSession → OpenSession) :
    (s.updateSession f).choices = s.choices := rfl
@[simp] theorem State.updateSession_pending (s : State) (f : OpenSession → OpenSession) :
    (s.updateSession f).pending = s.pending := rfl

/-! ### State.byteEnds -/

@[simp] theorem State.byteEnds_patterns (s : State) : (s.byteEnds).patterns = s.patterns := rfl
@[simp] theorem State.byteEnds_trackers (s : State) : (s.byteEnds).trackers = s.trackers := rfl
@[simp] theorem State.byteEnds_holdoffs (s : State) : (s.byteEnds).holdoffs = s.holdoffs := rfl
@[simp] theorem State.byteEnds_shortFlags (s : State) : (s.byteEnds).shortFlags = s.shortFlags := rfl
@[simp] theorem State.byteEnds_latchRequests (s : State) : (s.byteEnds).latchRequests = s.latchRequests := rfl
@[simp] theorem State.byteEnds_sources (s : State) : (s.byteEnds).sources = s.sources := rfl
@[simp] theorem State.byteEnds_serials (s : State) : (s.byteEnds).serials = s.serials := rfl
@[simp] theorem State.byteEnds_contacts (s : State) : (s.byteEnds).contacts = s.contacts := rfl
@[simp] theorem State.byteEnds_injectors (s : State) : (s.byteEnds).injectors = s.injectors := rfl
@[simp] theorem State.byteEnds_queue (s : State) : (s.byteEnds).queue = s.queue := rfl
@[simp] theorem State.byteEnds_wakes (s : State) : (s.byteEnds).wakes = s.wakes := rfl
@[simp] theorem State.byteEnds_power (s : State) : (s.byteEnds).power = s.power := rfl
@[simp] theorem State.byteEnds_link (s : State) :
    (s.byteEnds).link = { s.link with
      byteReceiver := if s.resetDue = true then s.link.byteReceiver else .hunting
      breakTimer := if s.resetDue = true then s.link.breakTimer else none } := rfl
@[simp] theorem State.byteEnds_session (s : State) : (s.byteEnds).session = s.session := rfl
@[simp] theorem State.byteEnds_clock (s : State) : (s.byteEnds).clock = s.clock := rfl
@[simp] theorem State.byteEnds_resetHeld (s : State) : (s.byteEnds).resetHeld = s.resetHeld := rfl
@[simp] theorem State.byteEnds_pins (s : State) : (s.byteEnds).pins =
    { s.pins with hrx := if s.resetDue = true then s.pins.hrx else .high } := rfl
@[simp] theorem State.byteEnds_choices (s : State) : (s.byteEnds).choices = s.choices := rfl
@[simp] theorem State.byteEnds_pending (s : State) : (s.byteEnds).pending = s.pending := rfl

/-! ### State.effectivenessChange -/

@[simp] theorem State.effectivenessChange_patterns (s : State) : (s.effectivenessChange).patterns = s.patterns := rfl
@[simp] theorem State.effectivenessChange_trackers (s : State) :
    (s.effectivenessChange).trackers = s.trackers.map fun slot => slot.filter fun t => !(match s.patterns.get t.pattern with
      | some e => decide (e.phase = .armed) && !s.entryEffective e
      | none => false) := rfl
@[simp] theorem State.effectivenessChange_holdoffs (s : State) : (s.effectivenessChange).holdoffs = s.holdoffs := rfl
@[simp] theorem State.effectivenessChange_shortFlags (s : State) :
    (s.effectivenessChange).shortFlags = s.shortFlags := rfl
@[simp] theorem State.effectivenessChange_latchRequests (s : State) :
    (s.effectivenessChange).latchRequests = s.latchRequests := rfl
@[simp] theorem State.effectivenessChange_sources (s : State) : (s.effectivenessChange).sources = s.sources := rfl
@[simp] theorem State.effectivenessChange_serials (s : State) : (s.effectivenessChange).serials = s.serials := rfl
@[simp] theorem State.effectivenessChange_contacts (s : State) : (s.effectivenessChange).contacts = s.contacts := rfl
@[simp] theorem State.effectivenessChange_injectors (s : State) :
    (s.effectivenessChange).injectors = s.injectors := rfl
@[simp] theorem State.effectivenessChange_queue (s : State) : (s.effectivenessChange).queue = s.queue := rfl
@[simp] theorem State.effectivenessChange_wakes (s : State) : (s.effectivenessChange).wakes = s.wakes := rfl
@[simp] theorem State.effectivenessChange_power (s : State) : (s.effectivenessChange).power = s.power := rfl
@[simp] theorem State.effectivenessChange_link (s : State) : (s.effectivenessChange).link = s.link := rfl
@[simp] theorem State.effectivenessChange_session (s : State) : (s.effectivenessChange).session = s.session := rfl
@[simp] theorem State.effectivenessChange_clock (s : State) : (s.effectivenessChange).clock = s.clock := rfl
@[simp] theorem State.effectivenessChange_resetHeld (s : State) :
    (s.effectivenessChange).resetHeld = s.resetHeld := rfl
@[simp] theorem State.effectivenessChange_pins (s : State) : (s.effectivenessChange).pins = s.pins := rfl
@[simp] theorem State.effectivenessChange_choices (s : State) : (s.effectivenessChange).choices = s.choices := rfl
@[simp] theorem State.effectivenessChange_pending (s : State) : (s.effectivenessChange).pending = s.pending := rfl

/-! ### State.beginQualification -/

@[simp] theorem State.beginQualification_patterns (s : State) : (s.beginQualification).patterns = s.patterns := rfl
@[simp] theorem State.beginQualification_trackers (s : State) : (s.beginQualification).trackers = s.trackers := rfl
@[simp] theorem State.beginQualification_holdoffs (s : State) : (s.beginQualification).holdoffs = s.holdoffs := rfl
@[simp] theorem State.beginQualification_shortFlags (s : State) :
    (s.beginQualification).shortFlags = s.shortFlags := rfl
@[simp] theorem State.beginQualification_latchRequests (s : State) :
    (s.beginQualification).latchRequests = s.latchRequests := rfl
@[simp] theorem State.beginQualification_sources (s : State) : (s.beginQualification).sources = s.sources := rfl
@[simp] theorem State.beginQualification_serials (s : State) : (s.beginQualification).serials = s.serials := rfl
@[simp] theorem State.beginQualification_contacts (s : State) : (s.beginQualification).contacts = s.contacts := rfl
@[simp] theorem State.beginQualification_injectors (s : State) : (s.beginQualification).injectors = s.injectors := rfl
@[simp] theorem State.beginQualification_queue (s : State) : (s.beginQualification).queue = s.queue := rfl
@[simp] theorem State.beginQualification_wakes (s : State) : (s.beginQualification).wakes = s.wakes := rfl
@[simp] theorem State.beginQualification_power (s : State) :
    (s.beginQualification).power = { qualified := .absent, timer := (match s.pins.hostpwr with
      | .high => some Config.qualificationTime
      | .low => none) } := rfl
@[simp] theorem State.beginQualification_link (s : State) : (s.beginQualification).link = s.link := rfl
@[simp] theorem State.beginQualification_session (s : State) : (s.beginQualification).session = s.session := rfl
@[simp] theorem State.beginQualification_clock (s : State) : (s.beginQualification).clock = s.clock := rfl
@[simp] theorem State.beginQualification_resetHeld (s : State) : (s.beginQualification).resetHeld = s.resetHeld := rfl
@[simp] theorem State.beginQualification_pins (s : State) : (s.beginQualification).pins = s.pins := rfl
@[simp] theorem State.beginQualification_choices (s : State) : (s.beginQualification).choices = s.choices := rfl
@[simp] theorem State.beginQualification_pending (s : State) : (s.beginQualification).pending = s.pending := rfl

end Sys2Proof.Machine
end

