-- ==== Sys2Proof/Laws/Frames.lean ====
section
/-! SUPPORT. Laws/Frames.lean: for each composite operation, the fields it leaves as they were, in one lemma that `simp`
uses field by field. -/
namespace Sys2Proof.Machine

/-- A fold keeps what each of its steps keeps. -/
theorem foldl_keeps {β γ : Type} (f : State → β → State) (g : State → γ) (h : ∀ s b, g (f s b) = g s) (l : List β) :
    ∀ s, g (l.foldl f s) = g s := by
  induction l with
  | nil => intro s; rfl
  | cons b l ih => intro s; simp [ih, h]

/-- What a handover of a notice leaves as it was (R163). -/
theorem State.chooseNotice_frame {s s' : State} {r : Record} (h : s.chooseNotice = some (r, s')) :
    s' = { s with queue := s'.queue, session := s'.session } := by
  unfold State.chooseNotice at h
  repeat' split at h
  all_goals first | (cases h; rfl) | cases h

@[simp] theorem State.offerIf_frame (s : State) (c : Bool) (b : RecordBody) :
    (s.offerIf c b).patterns = s.patterns ∧
      (s.offerIf c b).trackers = s.trackers ∧
      (s.offerIf c b).holdoffs = s.holdoffs ∧
      (s.offerIf c b).shortFlags = s.shortFlags ∧
      (s.offerIf c b).latchRequests = s.latchRequests ∧
      (s.offerIf c b).sources = s.sources ∧
      (s.offerIf c b).serials = s.serials ∧
      (s.offerIf c b).contacts = s.contacts ∧
      (s.offerIf c b).injectors = s.injectors ∧
      (s.offerIf c b).wakes = s.wakes ∧
      (s.offerIf c b).power = s.power ∧
      (s.offerIf c b).link = s.link ∧
      (s.offerIf c b).session = s.session ∧
      (s.offerIf c b).clock = s.clock ∧
      (s.offerIf c b).resetHeld = s.resetHeld ∧
      (s.offerIf c b).pins = s.pins ∧
      (s.offerIf c b).choices = s.choices ∧
      (s.offerIf c b).pending = s.pending := by
  unfold State.offerIf; split <;> simp

@[simp] theorem State.sourceOffRelease_frame (s : State) (src : SourceId) :
    (s.sourceOffRelease src).patterns = s.patterns ∧
      (s.sourceOffRelease src).shortFlags = s.shortFlags ∧
      (s.sourceOffRelease src).latchRequests = s.latchRequests ∧
      (s.sourceOffRelease src).sources = s.sources ∧
      (s.sourceOffRelease src).serials = s.serials ∧
      (s.sourceOffRelease src).contacts = s.contacts ∧
      (s.sourceOffRelease src).injectors = s.injectors ∧
      (s.sourceOffRelease src).queue = s.queue ∧
      (s.sourceOffRelease src).wakes = s.wakes ∧
      (s.sourceOffRelease src).power = s.power ∧
      (s.sourceOffRelease src).link = s.link ∧
      (s.sourceOffRelease src).session = s.session ∧
      (s.sourceOffRelease src).clock = s.clock ∧
      (s.sourceOffRelease src).resetHeld = s.resetHeld ∧
      (s.sourceOffRelease src).pins = s.pins ∧
      (s.sourceOffRelease src).choices = s.choices ∧
      (s.sourceOffRelease src).pending = s.pending := by
  simp [State.sourceOffRelease]

@[simp] theorem State.closeSession_frame (s : State) (reason : CloseReason) :
    (s.closeSession reason).patterns = s.patterns ∧
      (s.closeSession reason).trackers = s.trackers ∧
      (s.closeSession reason).holdoffs = s.holdoffs ∧
      (s.closeSession reason).shortFlags = s.shortFlags ∧
      (s.closeSession reason).latchRequests = s.latchRequests ∧
      (s.closeSession reason).sources = s.sources ∧
      (s.closeSession reason).serials = s.serials ∧
      (s.closeSession reason).contacts = s.contacts ∧
      (s.closeSession reason).injectors = s.injectors ∧
      (s.closeSession reason).wakes = s.wakes ∧
      (s.closeSession reason).power = s.power ∧
      (s.closeSession reason).link = s.link ∧
      (s.closeSession reason).clock = s.clock ∧
      (s.closeSession reason).resetHeld = s.resetHeld ∧
      (s.closeSession reason).pins = s.pins ∧
      (s.closeSession reason).choices = s.choices ∧
      (s.closeSession reason).pending = s.pending := by
  unfold State.closeSession; split <;> simp

@[simp] theorem State.saveReply_frame (s : State) (r : Reply) :
    (s.saveReply r).patterns = s.patterns ∧
      (s.saveReply r).trackers = s.trackers ∧
      (s.saveReply r).holdoffs = s.holdoffs ∧
      (s.saveReply r).shortFlags = s.shortFlags ∧
      (s.saveReply r).latchRequests = s.latchRequests ∧
      (s.saveReply r).sources = s.sources ∧
      (s.saveReply r).serials = s.serials ∧
      (s.saveReply r).contacts = s.contacts ∧
      (s.saveReply r).injectors = s.injectors ∧
      (s.saveReply r).queue = s.queue ∧
      (s.saveReply r).wakes = s.wakes ∧
      (s.saveReply r).power = s.power ∧
      (s.saveReply r).link = s.link ∧
      (s.saveReply r).clock = s.clock ∧
      (s.saveReply r).resetHeld = s.resetHeld ∧
      (s.saveReply r).pins = s.pins ∧
      (s.saveReply r).choices = s.choices ∧
      (s.saveReply r).pending = s.pending := by
  unfold State.saveReply; repeat' split
  all_goals simp

@[simp] theorem State.beginNotice_frame (s : State) :
    (s.beginNotice).patterns = s.patterns ∧
      (s.beginNotice).trackers = s.trackers ∧
      (s.beginNotice).holdoffs = s.holdoffs ∧
      (s.beginNotice).shortFlags = s.shortFlags ∧
      (s.beginNotice).latchRequests = s.latchRequests ∧
      (s.beginNotice).sources = s.sources ∧
      (s.beginNotice).serials = s.serials ∧
      (s.beginNotice).contacts = s.contacts ∧
      (s.beginNotice).injectors = s.injectors ∧
      (s.beginNotice).wakes = s.wakes ∧
      (s.beginNotice).power = s.power ∧
      (s.beginNotice).clock = s.clock ∧
      (s.beginNotice).resetHeld = s.resetHeld ∧
      (s.beginNotice).pins = s.pins ∧
      (s.beginNotice).choices = s.choices ∧
      (s.beginNotice).pending = s.pending := by
  unfold State.beginNotice; split
  · rename_i r s' h
    have e := State.chooseNotice_frame h
    refine ⟨?_, ?_, ?_, ?_, ?_, ?_, ?_, ?_, ?_, ?_, ?_, ?_, ?_, ?_, ?_, ?_⟩ <;> rw [e]
  · simp

@[simp] theorem State.arbitrate_frame (s : State) :
    (s.arbitrate).patterns = s.patterns ∧
      (s.arbitrate).trackers = s.trackers ∧
      (s.arbitrate).holdoffs = s.holdoffs ∧
      (s.arbitrate).shortFlags = s.shortFlags ∧
      (s.arbitrate).latchRequests = s.latchRequests ∧
      (s.arbitrate).sources = s.sources ∧
      (s.arbitrate).serials = s.serials ∧
      (s.arbitrate).contacts = s.contacts ∧
      (s.arbitrate).injectors = s.injectors ∧
      (s.arbitrate).wakes = s.wakes ∧
      (s.arbitrate).power = s.power ∧
      (s.arbitrate).clock = s.clock ∧
      (s.arbitrate).resetHeld = s.resetHeld ∧
      (s.arbitrate).pins = s.pins ∧
      (s.arbitrate).choices = s.choices ∧
      (s.arbitrate).pending = s.pending := by
  unfold State.arbitrate; split
  · simp
  · split <;> simp

@[simp] theorem State.noticeBeforeReply_frame (s : State) (kind : Byte) :
    (s.noticeBeforeReply kind).patterns = s.patterns ∧
      (s.noticeBeforeReply kind).trackers = s.trackers ∧
      (s.noticeBeforeReply kind).holdoffs = s.holdoffs ∧
      (s.noticeBeforeReply kind).shortFlags = s.shortFlags ∧
      (s.noticeBeforeReply kind).latchRequests = s.latchRequests ∧
      (s.noticeBeforeReply kind).sources = s.sources ∧
      (s.noticeBeforeReply kind).serials = s.serials ∧
      (s.noticeBeforeReply kind).contacts = s.contacts ∧
      (s.noticeBeforeReply kind).injectors = s.injectors ∧
      (s.noticeBeforeReply kind).wakes = s.wakes ∧
      (s.noticeBeforeReply kind).power = s.power ∧
      (s.noticeBeforeReply kind).clock = s.clock ∧
      (s.noticeBeforeReply kind).resetHeld = s.resetHeld ∧
      (s.noticeBeforeReply kind).pins = s.pins ∧
      (s.noticeBeforeReply kind).pending = s.pending := by
  unfold State.noticeBeforeReply; split
  · simp
  · split
    · simp
    · dsimp only; split <;> simp

@[simp] theorem State.reply_frame (s : State) (r : Reply) :
    (s.reply r).patterns = s.patterns ∧
      (s.reply r).trackers = s.trackers ∧
      (s.reply r).holdoffs = s.holdoffs ∧
      (s.reply r).shortFlags = s.shortFlags ∧
      (s.reply r).latchRequests = s.latchRequests ∧
      (s.reply r).sources = s.sources ∧
      (s.reply r).serials = s.serials ∧
      (s.reply r).contacts = s.contacts ∧
      (s.reply r).injectors = s.injectors ∧
      (s.reply r).wakes = s.wakes ∧
      (s.reply r).power = s.power ∧
      (s.reply r).clock = s.clock ∧
      (s.reply r).resetHeld = s.resetHeld ∧
      (s.reply r).pins = s.pins ∧
      (s.reply r).pending = s.pending := by
  simp [State.reply]

@[simp] theorem State.reportShort_frame (s : State) (src : SourceId) (lost : Option PatternId) :
    (s.reportShort src lost).patterns = s.patterns ∧
      (s.reportShort src lost).trackers = s.trackers ∧
      (s.reportShort src lost).holdoffs = s.holdoffs ∧
      (s.reportShort src lost).latchRequests = s.latchRequests ∧
      (s.reportShort src lost).sources = s.sources ∧
      (s.reportShort src lost).serials = s.serials ∧
      (s.reportShort src lost).contacts = s.contacts ∧
      (s.reportShort src lost).injectors = s.injectors ∧
      (s.reportShort src lost).wakes = s.wakes ∧
      (s.reportShort src lost).power = s.power ∧
      (s.reportShort src lost).link = s.link ∧
      (s.reportShort src lost).session = s.session ∧
      (s.reportShort src lost).clock = s.clock ∧
      (s.reportShort src lost).resetHeld = s.resetHeld ∧
      (s.reportShort src lost).pins = s.pins ∧
      (s.reportShort src lost).choices = s.choices ∧
      (s.reportShort src lost).pending = s.pending := by
  unfold State.reportShort; repeat' split
  all_goals simp

@[simp] theorem State.complete_frame (s : State) (src : SourceId) (c : Completion) :
    (State.complete src s c).holdoffs = s.holdoffs ∧
      (State.complete src s c).shortFlags = s.shortFlags ∧
      (State.complete src s c).sources = s.sources ∧
      (State.complete src s c).serials = s.serials ∧
      (State.complete src s c).contacts = s.contacts ∧
      (State.complete src s c).injectors = s.injectors ∧
      (State.complete src s c).wakes = s.wakes ∧
      (State.complete src s c).power = s.power ∧
      (State.complete src s c).link = s.link ∧
      (State.complete src s c).session = s.session ∧
      (State.complete src s c).clock = s.clock ∧
      (State.complete src s c).resetHeld = s.resetHeld ∧
      (State.complete src s c).pins = s.pins ∧
      (State.complete src s c).choices = s.choices ∧
      (State.complete src s c).pending = s.pending := by
  unfold State.complete; split
  · simp
  · dsimp only; split <;> simp

@[simp] theorem State.takeCompletions_frame (s : State) (src : SourceId) (cs : List Completion) :
    (s.takeCompletions src cs).holdoffs = s.holdoffs ∧
      (s.takeCompletions src cs).shortFlags = s.shortFlags ∧
      (s.takeCompletions src cs).sources = s.sources ∧
      (s.takeCompletions src cs).serials = s.serials ∧
      (s.takeCompletions src cs).contacts = s.contacts ∧
      (s.takeCompletions src cs).injectors = s.injectors ∧
      (s.takeCompletions src cs).wakes = s.wakes ∧
      (s.takeCompletions src cs).power = s.power ∧
      (s.takeCompletions src cs).link = s.link ∧
      (s.takeCompletions src cs).session = s.session ∧
      (s.takeCompletions src cs).clock = s.clock ∧
      (s.takeCompletions src cs).resetHeld = s.resetHeld ∧
      (s.takeCompletions src cs).pins = s.pins ∧
      (s.takeCompletions src cs).choices = s.choices ∧
      (s.takeCompletions src cs).pending = s.pending := by
  unfold State.takeCompletions; dsimp only; split
  · exact ⟨foldl_keeps (State.complete src) State.holdoffs (by simp) _ _,
    foldl_keeps (State.complete src) State.shortFlags (by simp) _ _,
    foldl_keeps (State.complete src) State.sources (by simp) _ _,
    foldl_keeps (State.complete src) State.serials (by simp) _ _,
    foldl_keeps (State.complete src) State.contacts (by simp) _ _,
    foldl_keeps (State.complete src) State.injectors (by simp) _ _,
    foldl_keeps (State.complete src) State.wakes (by simp) _ _,
    foldl_keeps (State.complete src) State.power (by simp) _ _,
    foldl_keeps (State.complete src) State.link (by simp) _ _,
    foldl_keeps (State.complete src) State.session (by simp) _ _,
    foldl_keeps (State.complete src) State.clock (by simp) _ _,
    foldl_keeps (State.complete src) State.resetHeld (by simp) _ _,
    foldl_keeps (State.complete src) State.pins (by simp) _ _,
    foldl_keeps (State.complete src) State.choices (by simp) _ _,
    foldl_keeps (State.complete src) State.pending (by simp) _ _⟩
  · exact ⟨foldl_keeps (State.complete src) State.holdoffs (by simp) _ _,
    foldl_keeps (State.complete src) State.shortFlags (by simp) _ _,
    foldl_keeps (State.complete src) State.sources (by simp) _ _,
    foldl_keeps (State.complete src) State.serials (by simp) _ _,
    foldl_keeps (State.complete src) State.contacts (by simp) _ _,
    foldl_keeps (State.complete src) State.injectors (by simp) _ _,
    foldl_keeps (State.complete src) State.wakes (by simp) _ _,
    foldl_keeps (State.complete src) State.power (by simp) _ _,
    foldl_keeps (State.complete src) State.link (by simp) _ _,
    foldl_keeps (State.complete src) State.session (by simp) _ _,
    foldl_keeps (State.complete src) State.clock (by simp) _ _,
    foldl_keeps (State.complete src) State.resetHeld (by simp) _ _,
    foldl_keeps (State.complete src) State.pins (by simp) _ _,
    foldl_keeps (State.complete src) State.choices (by simp) _ _,
    foldl_keeps (State.complete src) State.pending (by simp) _ _⟩

@[simp] theorem State.arrival_frame (s : State) (src : SourceId) (sym : Symbol) :
    (s.arrival src sym).sources = s.sources ∧
      (s.arrival src sym).serials = s.serials ∧
      (s.arrival src sym).contacts = s.contacts ∧
      (s.arrival src sym).injectors = s.injectors ∧
      (s.arrival src sym).wakes = s.wakes ∧
      (s.arrival src sym).power = s.power ∧
      (s.arrival src sym).link = s.link ∧
      (s.arrival src sym).session = s.session ∧
      (s.arrival src sym).clock = s.clock ∧
      (s.arrival src sym).resetHeld = s.resetHeld ∧
      (s.arrival src sym).pins = s.pins ∧
      (s.arrival src sym).choices = s.choices ∧
      (s.arrival src sym).pending = s.pending := by
  simp [State.arrival]

@[simp] theorem State.reportLineError_frame (s : State) (i : SerialId) (kind : ErrorKind) :
    (s.reportLineError i kind).patterns = s.patterns ∧
      (s.reportLineError i kind).trackers = s.trackers ∧
      (s.reportLineError i kind).holdoffs = s.holdoffs ∧
      (s.reportLineError i kind).shortFlags = s.shortFlags ∧
      (s.reportLineError i kind).latchRequests = s.latchRequests ∧
      (s.reportLineError i kind).sources = s.sources ∧
      (s.reportLineError i kind).contacts = s.contacts ∧
      (s.reportLineError i kind).injectors = s.injectors ∧
      (s.reportLineError i kind).wakes = s.wakes ∧
      (s.reportLineError i kind).power = s.power ∧
      (s.reportLineError i kind).link = s.link ∧
      (s.reportLineError i kind).session = s.session ∧
      (s.reportLineError i kind).clock = s.clock ∧
      (s.reportLineError i kind).resetHeld = s.resetHeld ∧
      (s.reportLineError i kind).pins = s.pins ∧
      (s.reportLineError i kind).choices = s.choices ∧
      (s.reportLineError i kind).pending = s.pending := by
  unfold State.reportLineError; split <;> simp

@[simp] theorem State.noteError_frame (s : State) (src : SourceId) (sym : Symbol) :
    (s.noteError src sym).patterns = s.patterns ∧
      (s.noteError src sym).trackers = s.trackers ∧
      (s.noteError src sym).holdoffs = s.holdoffs ∧
      (s.noteError src sym).shortFlags = s.shortFlags ∧
      (s.noteError src sym).latchRequests = s.latchRequests ∧
      (s.noteError src sym).sources = s.sources ∧
      (s.noteError src sym).contacts = s.contacts ∧
      (s.noteError src sym).injectors = s.injectors ∧
      (s.noteError src sym).wakes = s.wakes ∧
      (s.noteError src sym).power = s.power ∧
      (s.noteError src sym).link = s.link ∧
      (s.noteError src sym).session = s.session ∧
      (s.noteError src sym).clock = s.clock ∧
      (s.noteError src sym).resetHeld = s.resetHeld ∧
      (s.noteError src sym).pins = s.pins ∧
      (s.noteError src sym).choices = s.choices ∧
      (s.noteError src sym).pending = s.pending := by
  unfold State.noteError; split <;> simp

@[simp] theorem State.deliver_frame (s : State) (src : SourceId) (sym : Symbol) :
    (s.deliver src sym).contacts = s.contacts ∧
      (s.deliver src sym).injectors = s.injectors ∧
      (s.deliver src sym).wakes = s.wakes ∧
      (s.deliver src sym).power = s.power ∧
      (s.deliver src sym).link = s.link ∧
      (s.deliver src sym).session = s.session ∧
      (s.deliver src sym).clock = s.clock ∧
      (s.deliver src sym).resetHeld = s.resetHeld ∧
      (s.deliver src sym).pins = s.pins ∧
      (s.deliver src sym).choices = s.choices ∧
      (s.deliver src sym).pending = s.pending := by
  simp [State.deliver]

@[simp] theorem State.endRun_frame (s : State) (src : SourceId) (reason : RunEnd) :
    (s.endRun src reason).patterns = s.patterns ∧
      (s.endRun src reason).trackers = s.trackers ∧
      (s.endRun src reason).holdoffs = s.holdoffs ∧
      (s.endRun src reason).shortFlags = s.shortFlags ∧
      (s.endRun src reason).latchRequests = s.latchRequests ∧
      (s.endRun src reason).sources = s.sources ∧
      (s.endRun src reason).serials = s.serials ∧
      (s.endRun src reason).contacts = s.contacts ∧
      (s.endRun src reason).wakes = s.wakes ∧
      (s.endRun src reason).power = s.power ∧
      (s.endRun src reason).link = s.link ∧
      (s.endRun src reason).session = s.session ∧
      (s.endRun src reason).clock = s.clock ∧
      (s.endRun src reason).resetHeld = s.resetHeld ∧
      (s.endRun src reason).pins = s.pins ∧
      (s.endRun src reason).choices = s.choices ∧
      (s.endRun src reason).pending = s.pending := by
  simp [State.endRun]

@[simp] theorem State.endRunIfAny_frame (s : State) (src : SourceId) (reason : RunEnd) :
    (s.endRunIfAny src reason).patterns = s.patterns ∧
      (s.endRunIfAny src reason).trackers = s.trackers ∧
      (s.endRunIfAny src reason).holdoffs = s.holdoffs ∧
      (s.endRunIfAny src reason).shortFlags = s.shortFlags ∧
      (s.endRunIfAny src reason).latchRequests = s.latchRequests ∧
      (s.endRunIfAny src reason).sources = s.sources ∧
      (s.endRunIfAny src reason).serials = s.serials ∧
      (s.endRunIfAny src reason).contacts = s.contacts ∧
      (s.endRunIfAny src reason).wakes = s.wakes ∧
      (s.endRunIfAny src reason).power = s.power ∧
      (s.endRunIfAny src reason).link = s.link ∧
      (s.endRunIfAny src reason).session = s.session ∧
      (s.endRunIfAny src reason).clock = s.clock ∧
      (s.endRunIfAny src reason).resetHeld = s.resetHeld ∧
      (s.endRunIfAny src reason).pins = s.pins ∧
      (s.endRunIfAny src reason).choices = s.choices ∧
      (s.endRunIfAny src reason).pending = s.pending := by
  unfold State.endRunIfAny; split <;> simp

@[simp] theorem State.afterDelivery_frame (s : State) (src : SourceId) :
    (s.afterDelivery src).patterns = s.patterns ∧
      (s.afterDelivery src).trackers = s.trackers ∧
      (s.afterDelivery src).holdoffs = s.holdoffs ∧
      (s.afterDelivery src).shortFlags = s.shortFlags ∧
      (s.afterDelivery src).latchRequests = s.latchRequests ∧
      (s.afterDelivery src).sources = s.sources ∧
      (s.afterDelivery src).serials = s.serials ∧
      (s.afterDelivery src).contacts = s.contacts ∧
      (s.afterDelivery src).wakes = s.wakes ∧
      (s.afterDelivery src).power = s.power ∧
      (s.afterDelivery src).link = s.link ∧
      (s.afterDelivery src).session = s.session ∧
      (s.afterDelivery src).clock = s.clock ∧
      (s.afterDelivery src).resetHeld = s.resetHeld ∧
      (s.afterDelivery src).pins = s.pins ∧
      (s.afterDelivery src).choices = s.choices ∧
      (s.afterDelivery src).pending = s.pending := by
  unfold State.afterDelivery; split <;> simp

@[simp] theorem State.setReceiver_frame (s : State) (src : SourceId) (f : SerialId → Receiver → Receiver) :
    (s.setReceiver src f).patterns = s.patterns ∧
      (s.setReceiver src f).trackers = s.trackers ∧
      (s.setReceiver src f).holdoffs = s.holdoffs ∧
      (s.setReceiver src f).shortFlags = s.shortFlags ∧
      (s.setReceiver src f).latchRequests = s.latchRequests ∧
      (s.setReceiver src f).sources = s.sources ∧
      (s.setReceiver src f).contacts = s.contacts ∧
      (s.setReceiver src f).injectors = s.injectors ∧
      (s.setReceiver src f).queue = s.queue ∧
      (s.setReceiver src f).wakes = s.wakes ∧
      (s.setReceiver src f).power = s.power ∧
      (s.setReceiver src f).link = s.link ∧
      (s.setReceiver src f).session = s.session ∧
      (s.setReceiver src f).clock = s.clock ∧
      (s.setReceiver src f).resetHeld = s.resetHeld ∧
      (s.setReceiver src f).pins = s.pins ∧
      (s.setReceiver src f).choices = s.choices ∧
      (s.setReceiver src f).pending = s.pending := by
  unfold State.setReceiver; split <;> simp

@[simp] theorem State.reportSource_frame (s : State) (src : SourceId) (ch : SourceChange) :
    (s.reportSource src ch).patterns = s.patterns ∧
      (s.reportSource src ch).trackers = s.trackers ∧
      (s.reportSource src ch).holdoffs = s.holdoffs ∧
      (s.reportSource src ch).shortFlags = s.shortFlags ∧
      (s.reportSource src ch).latchRequests = s.latchRequests ∧
      (s.reportSource src ch).sources = s.sources ∧
      (s.reportSource src ch).serials = s.serials ∧
      (s.reportSource src ch).contacts = s.contacts ∧
      (s.reportSource src ch).injectors = s.injectors ∧
      (s.reportSource src ch).wakes = s.wakes ∧
      (s.reportSource src ch).power = s.power ∧
      (s.reportSource src ch).link = s.link ∧
      (s.reportSource src ch).session = s.session ∧
      (s.reportSource src ch).clock = s.clock ∧
      (s.reportSource src ch).resetHeld = s.resetHeld ∧
      (s.reportSource src ch).pins = s.pins ∧
      (s.reportSource src ch).choices = s.choices ∧
      (s.reportSource src ch).pending = s.pending := by
  simp [State.reportSource]

@[simp] theorem State.enterListening_frame (s : State) (src : SourceId) :
    (s.enterListening src).patterns = s.patterns ∧
      (s.enterListening src).trackers = s.trackers ∧
      (s.enterListening src).holdoffs = s.holdoffs ∧
      (s.enterListening src).shortFlags = s.shortFlags ∧
      (s.enterListening src).latchRequests = s.latchRequests ∧
      (s.enterListening src).contacts = s.contacts ∧
      (s.enterListening src).injectors = s.injectors ∧
      (s.enterListening src).wakes = s.wakes ∧
      (s.enterListening src).power = s.power ∧
      (s.enterListening src).link = s.link ∧
      (s.enterListening src).session = s.session ∧
      (s.enterListening src).clock = s.clock ∧
      (s.enterListening src).resetHeld = s.resetHeld ∧
      (s.enterListening src).pins = s.pins ∧
      (s.enterListening src).choices = s.choices ∧
      (s.enterListening src).pending = s.pending := by
  simp [State.enterListening]

@[simp] theorem State.enterSettling_frame (s : State) (src : SourceId) :
    (s.enterSettling src).patterns = s.patterns ∧
      (s.enterSettling src).trackers = s.trackers ∧
      (s.enterSettling src).holdoffs = s.holdoffs ∧
      (s.enterSettling src).shortFlags = s.shortFlags ∧
      (s.enterSettling src).latchRequests = s.latchRequests ∧
      (s.enterSettling src).contacts = s.contacts ∧
      (s.enterSettling src).injectors = s.injectors ∧
      (s.enterSettling src).wakes = s.wakes ∧
      (s.enterSettling src).power = s.power ∧
      (s.enterSettling src).link = s.link ∧
      (s.enterSettling src).session = s.session ∧
      (s.enterSettling src).clock = s.clock ∧
      (s.enterSettling src).resetHeld = s.resetHeld ∧
      (s.enterSettling src).pins = s.pins ∧
      (s.enterSettling src).choices = s.choices ∧
      (s.enterSettling src).pending = s.pending := by
  unfold State.enterSettling; dsimp only; split <;> simp

@[simp] theorem State.goOff_frame (s : State) (src : SourceId) :
    (s.goOff src).patterns = s.patterns ∧
      (s.goOff src).shortFlags = s.shortFlags ∧
      (s.goOff src).latchRequests = s.latchRequests ∧
      (s.goOff src).contacts = s.contacts ∧
      (s.goOff src).injectors = s.injectors ∧
      (s.goOff src).queue = s.queue ∧
      (s.goOff src).wakes = s.wakes ∧
      (s.goOff src).power = s.power ∧
      (s.goOff src).link = s.link ∧
      (s.goOff src).session = s.session ∧
      (s.goOff src).clock = s.clock ∧
      (s.goOff src).resetHeld = s.resetHeld ∧
      (s.goOff src).pins = s.pins ∧
      (s.goOff src).choices = s.choices ∧
      (s.goOff src).pending = s.pending := by
  unfold State.goOff; dsimp only; split <;> simp

@[simp] theorem State.applySource_frame (s : State) (src : SourceId) :
    (s.applySource src).patterns = s.patterns ∧
      (s.applySource src).shortFlags = s.shortFlags ∧
      (s.applySource src).latchRequests = s.latchRequests ∧
      (s.applySource src).contacts = s.contacts ∧
      (s.applySource src).wakes = s.wakes ∧
      (s.applySource src).power = s.power ∧
      (s.applySource src).link = s.link ∧
      (s.applySource src).session = s.session ∧
      (s.applySource src).clock = s.clock ∧
      (s.applySource src).resetHeld = s.resetHeld ∧
      (s.applySource src).pins = s.pins ∧
      (s.applySource src).choices = s.choices ∧
      (s.applySource src).pending = s.pending := by
  unfold State.applySource; dsimp only; repeat' split
  all_goals simp

@[simp] theorem State.configureSource_frame (s : State) (src : SourceId) (c : SourceConfig) (line : Option LineConfig) :
    (s.configureSource src c line).patterns = s.patterns ∧
      (s.configureSource src c line).trackers = s.trackers ∧
      (s.configureSource src c line).holdoffs = s.holdoffs ∧
      (s.configureSource src c line).shortFlags = s.shortFlags ∧
      (s.configureSource src c line).latchRequests = s.latchRequests ∧
      (s.configureSource src c line).contacts = s.contacts ∧
      (s.configureSource src c line).injectors = s.injectors ∧
      (s.configureSource src c line).queue = s.queue ∧
      (s.configureSource src c line).wakes = s.wakes ∧
      (s.configureSource src c line).power = s.power ∧
      (s.configureSource src c line).link = s.link ∧
      (s.configureSource src c line).session = s.session ∧
      (s.configureSource src c line).clock = s.clock ∧
      (s.configureSource src c line).resetHeld = s.resetHeld ∧
      (s.configureSource src c line).pins = s.pins ∧
      (s.configureSource src c line).choices = s.choices ∧
      (s.configureSource src c line).pending = s.pending := by
  unfold State.configureSource; dsimp only; split <;> simp

@[simp] theorem State.losePower_frame (s : State) (i : SerialId) :
    (s.losePower i).patterns = s.patterns ∧
      (s.losePower i).shortFlags = s.shortFlags ∧
      (s.losePower i).latchRequests = s.latchRequests ∧
      (s.losePower i).contacts = s.contacts ∧
      (s.losePower i).injectors = s.injectors ∧
      (s.losePower i).wakes = s.wakes ∧
      (s.losePower i).power = s.power ∧
      (s.losePower i).link = s.link ∧
      (s.losePower i).session = s.session ∧
      (s.losePower i).clock = s.clock ∧
      (s.losePower i).resetHeld = s.resetHeld ∧
      (s.losePower i).pins = s.pins ∧
      (s.losePower i).choices = s.choices ∧
      (s.losePower i).pending = s.pending := by
  unfold State.losePower; repeat' split
  all_goals simp

@[simp] theorem State.gainPower_frame (s : State) (i : SerialId) :
    (s.gainPower i).patterns = s.patterns ∧
      (s.gainPower i).shortFlags = s.shortFlags ∧
      (s.gainPower i).latchRequests = s.latchRequests ∧
      (s.gainPower i).contacts = s.contacts ∧
      (s.gainPower i).injectors = s.injectors ∧
      (s.gainPower i).wakes = s.wakes ∧
      (s.gainPower i).power = s.power ∧
      (s.gainPower i).link = s.link ∧
      (s.gainPower i).session = s.session ∧
      (s.gainPower i).clock = s.clock ∧
      (s.gainPower i).resetHeld = s.resetHeld ∧
      (s.gainPower i).pins = s.pins ∧
      (s.gainPower i).choices = s.choices ∧
      (s.gainPower i).pending = s.pending := by
  unfold State.gainPower; split <;> simp

@[simp] theorem State.sourcesFollow_frame (s : State) (p : HostPower) :
    (s.sourcesFollow p).patterns = s.patterns ∧
      (s.sourcesFollow p).shortFlags = s.shortFlags ∧
      (s.sourcesFollow p).latchRequests = s.latchRequests ∧
      (s.sourcesFollow p).contacts = s.contacts ∧
      (s.sourcesFollow p).injectors = s.injectors ∧
      (s.sourcesFollow p).wakes = s.wakes ∧
      (s.sourcesFollow p).power = s.power ∧
      (s.sourcesFollow p).link = s.link ∧
      (s.sourcesFollow p).session = s.session ∧
      (s.sourcesFollow p).clock = s.clock ∧
      (s.sourcesFollow p).resetHeld = s.resetHeld ∧
      (s.sourcesFollow p).pins = s.pins ∧
      (s.sourcesFollow p).choices = s.choices ∧
      (s.sourcesFollow p).pending = s.pending := by
  unfold State.sourcesFollow; split
  · exact ⟨foldl_keeps State.losePower State.patterns (by simp) _ _,
      foldl_keeps State.losePower State.shortFlags (by simp) _ _,
      foldl_keeps State.losePower State.latchRequests (by simp) _ _,
      foldl_keeps State.losePower State.contacts (by simp) _ _,
      foldl_keeps State.losePower State.injectors (by simp) _ _,
      foldl_keeps State.losePower State.wakes (by simp) _ _,
      foldl_keeps State.losePower State.power (by simp) _ _,
      foldl_keeps State.losePower State.link (by simp) _ _,
      foldl_keeps State.losePower State.session (by simp) _ _,
      foldl_keeps State.losePower State.clock (by simp) _ _,
      foldl_keeps State.losePower State.resetHeld (by simp) _ _,
      foldl_keeps State.losePower State.pins (by simp) _ _,
      foldl_keeps State.losePower State.choices (by simp) _ _,
      foldl_keeps State.losePower State.pending (by simp) _ _⟩
  · exact ⟨foldl_keeps State.gainPower State.patterns (by simp) _ _,
      foldl_keeps State.gainPower State.shortFlags (by simp) _ _,
      foldl_keeps State.gainPower State.latchRequests (by simp) _ _,
      foldl_keeps State.gainPower State.contacts (by simp) _ _,
      foldl_keeps State.gainPower State.injectors (by simp) _ _,
      foldl_keeps State.gainPower State.wakes (by simp) _ _,
      foldl_keeps State.gainPower State.power (by simp) _ _,
      foldl_keeps State.gainPower State.link (by simp) _ _,
      foldl_keeps State.gainPower State.session (by simp) _ _,
      foldl_keeps State.gainPower State.clock (by simp) _ _,
      foldl_keeps State.gainPower State.resetHeld (by simp) _ _,
      foldl_keeps State.gainPower State.pins (by simp) _ _,
      foldl_keeps State.gainPower State.choices (by simp) _ _,
      foldl_keeps State.gainPower State.pending (by simp) _ _⟩

@[simp] theorem State.contactArrival_frame (s : State) (sym : Option Byte) :
    (s.contactArrival sym).contacts = s.contacts ∧
      (s.contactArrival sym).injectors = s.injectors ∧
      (s.contactArrival sym).wakes = s.wakes ∧
      (s.contactArrival sym).power = s.power ∧
      (s.contactArrival sym).link = s.link ∧
      (s.contactArrival sym).session = s.session ∧
      (s.contactArrival sym).clock = s.clock ∧
      (s.contactArrival sym).resetHeld = s.resetHeld ∧
      (s.contactArrival sym).pins = s.pins ∧
      (s.contactArrival sym).choices = s.choices ∧
      (s.contactArrival sym).pending = s.pending := by
  unfold State.contactArrival; repeat' split
  all_goals simp

@[simp] theorem State.stableChange_frame (s : State) (k : ContactId) (level : Level) :
    (s.stableChange k level).injectors = s.injectors ∧
      (s.stableChange k level).wakes = s.wakes ∧
      (s.stableChange k level).power = s.power ∧
      (s.stableChange k level).link = s.link ∧
      (s.stableChange k level).session = s.session ∧
      (s.stableChange k level).clock = s.clock ∧
      (s.stableChange k level).resetHeld = s.resetHeld ∧
      (s.stableChange k level).pins = s.pins ∧
      (s.stableChange k level).choices = s.choices ∧
      (s.stableChange k level).pending = s.pending := by
  simp [State.stableChange]

@[simp] theorem State.contactPin_frame (s : State) (k : ContactId) (level : Level) :
    (s.contactPin k level).injectors = s.injectors ∧
      (s.contactPin k level).wakes = s.wakes ∧
      (s.contactPin k level).power = s.power ∧
      (s.contactPin k level).link = s.link ∧
      (s.contactPin k level).session = s.session ∧
      (s.contactPin k level).clock = s.clock ∧
      (s.contactPin k level).resetHeld = s.resetHeld ∧
      (s.contactPin k level).pins = s.pins ∧
      (s.contactPin k level).choices = s.choices ∧
      (s.contactPin k level).pending = s.pending := by
  unfold State.contactPin; dsimp only; repeat' split
  all_goals simp

@[simp] theorem State.configureContact_frame (s : State) (k : ContactId) (cfg : ContactConfig) :
    (s.configureContact k cfg).injectors = s.injectors ∧
      (s.configureContact k cfg).wakes = s.wakes ∧
      (s.configureContact k cfg).power = s.power ∧
      (s.configureContact k cfg).link = s.link ∧
      (s.configureContact k cfg).session = s.session ∧
      (s.configureContact k cfg).clock = s.clock ∧
      (s.configureContact k cfg).resetHeld = s.resetHeld ∧
      (s.configureContact k cfg).pins = s.pins ∧
      (s.configureContact k cfg).choices = s.choices ∧
      (s.configureContact k cfg).pending = s.pending := by
  unfold State.configureContact; dsimp only; repeat' split
  all_goals simp

@[simp] theorem State.releasePattern_frame (s : State) (p : PatternId) :
    (s.releasePattern p).patterns = s.patterns ∧
      (s.releasePattern p).holdoffs = s.holdoffs ∧
      (s.releasePattern p).shortFlags = s.shortFlags ∧
      (s.releasePattern p).latchRequests = s.latchRequests ∧
      (s.releasePattern p).sources = s.sources ∧
      (s.releasePattern p).serials = s.serials ∧
      (s.releasePattern p).contacts = s.contacts ∧
      (s.releasePattern p).injectors = s.injectors ∧
      (s.releasePattern p).queue = s.queue ∧
      (s.releasePattern p).wakes = s.wakes ∧
      (s.releasePattern p).power = s.power ∧
      (s.releasePattern p).link = s.link ∧
      (s.releasePattern p).session = s.session ∧
      (s.releasePattern p).clock = s.clock ∧
      (s.releasePattern p).resetHeld = s.resetHeld ∧
      (s.releasePattern p).pins = s.pins ∧
      (s.releasePattern p).choices = s.choices ∧
      (s.releasePattern p).pending = s.pending := by
  simp [State.releasePattern]

@[simp] theorem State.recordLeaves_frame (s : State) (r : Record) :
    (s.recordLeaves r).patterns = s.patterns ∧
      (s.recordLeaves r).trackers = s.trackers ∧
      (s.recordLeaves r).holdoffs = s.holdoffs ∧
      (s.recordLeaves r).latchRequests = s.latchRequests ∧
      (s.recordLeaves r).sources = s.sources ∧
      (s.recordLeaves r).contacts = s.contacts ∧
      (s.recordLeaves r).injectors = s.injectors ∧
      (s.recordLeaves r).queue = s.queue ∧
      (s.recordLeaves r).wakes = s.wakes ∧
      (s.recordLeaves r).power = s.power ∧
      (s.recordLeaves r).link = s.link ∧
      (s.recordLeaves r).session = s.session ∧
      (s.recordLeaves r).clock = s.clock ∧
      (s.recordLeaves r).resetHeld = s.resetHeld ∧
      (s.recordLeaves r).pins = s.pins ∧
      (s.recordLeaves r).choices = s.choices ∧
      (s.recordLeaves r).pending = s.pending := by
  unfold State.recordLeaves; split <;> simp

@[simp] theorem State.linkFollows_frame (s : State) (p : HostPower) :
    (s.linkFollows p).patterns = s.patterns ∧
      (s.linkFollows p).trackers = s.trackers ∧
      (s.linkFollows p).holdoffs = s.holdoffs ∧
      (s.linkFollows p).shortFlags = s.shortFlags ∧
      (s.linkFollows p).latchRequests = s.latchRequests ∧
      (s.linkFollows p).sources = s.sources ∧
      (s.linkFollows p).serials = s.serials ∧
      (s.linkFollows p).contacts = s.contacts ∧
      (s.linkFollows p).injectors = s.injectors ∧
      (s.linkFollows p).queue = s.queue ∧
      (s.linkFollows p).wakes = s.wakes ∧
      (s.linkFollows p).power = s.power ∧
      (s.linkFollows p).session = s.session ∧
      (s.linkFollows p).clock = s.clock ∧
      (s.linkFollows p).resetHeld = s.resetHeld ∧
      (s.linkFollows p).pins = s.pins ∧
      (s.linkFollows p).choices = s.choices ∧
      (s.linkFollows p).pending = s.pending := by
  unfold State.linkFollows; split <;> simp

@[simp] theorem State.sessionFollows_frame (s : State) (p : HostPower) :
    (s.sessionFollows p).patterns = s.patterns ∧
      (s.sessionFollows p).trackers = s.trackers ∧
      (s.sessionFollows p).holdoffs = s.holdoffs ∧
      (s.sessionFollows p).shortFlags = s.shortFlags ∧
      (s.sessionFollows p).latchRequests = s.latchRequests ∧
      (s.sessionFollows p).sources = s.sources ∧
      (s.sessionFollows p).serials = s.serials ∧
      (s.sessionFollows p).contacts = s.contacts ∧
      (s.sessionFollows p).injectors = s.injectors ∧
      (s.sessionFollows p).wakes = s.wakes ∧
      (s.sessionFollows p).power = s.power ∧
      (s.sessionFollows p).link = s.link ∧
      (s.sessionFollows p).clock = s.clock ∧
      (s.sessionFollows p).resetHeld = s.resetHeld ∧
      (s.sessionFollows p).pins = s.pins ∧
      (s.sessionFollows p).choices = s.choices ∧
      (s.sessionFollows p).pending = s.pending := by
  unfold State.sessionFollows; split <;> simp

@[simp] theorem State.powerChange_frame (s : State) (p : HostPower) :
    (s.powerChange p).patterns = s.patterns ∧
      (s.powerChange p).shortFlags = s.shortFlags ∧
      (s.powerChange p).latchRequests = s.latchRequests ∧
      (s.powerChange p).contacts = s.contacts ∧
      (s.powerChange p).injectors = s.injectors ∧
      (s.powerChange p).clock = s.clock ∧
      (s.powerChange p).resetHeld = s.resetHeld ∧
      (s.powerChange p).pins = s.pins ∧
      (s.powerChange p).choices = s.choices ∧
      (s.powerChange p).pending = s.pending := by
  simp [State.powerChange]

end Sys2Proof.Machine
end

