-- ==== Sys2Proof/Laws/Table.lean ====
section
/-! SUPPORT. Laws/Table.lean: reading a table after each way of building it. -/
namespace Sys2Proof

variable {α β : Type} {n : Nat}

theorem Table.ext_get {t u : Table α n} (h : ∀ i : Fin n, t.get i = u.get i) : t = u := by
  obtain ⟨r, hr⟩ := t
  obtain ⟨q, hq⟩ := u
  have : r = q := by
    apply List.ext_getElem (hr.trans hq.symm)
    intro k h1 h2
    exact h ⟨k, hr ▸ h1⟩
  subst this
  rfl

@[simp] theorem Table.get_tabulate (f : Fin n → α) (i : Fin n) : (Table.tabulate f).get i = f i := by
  simp [Table.tabulate, Table.get]

@[simp] theorem Table.get_fill (a : α) (i : Fin n) : (Table.fill n a).get i = a := by
  simp [Table.fill, Table.get]

@[simp] theorem Table.get_map (f : α → β) (t : Table α n) (i : Fin n) : (t.map f).get i = f (t.get i) := by
  simp [Table.map, Table.get]

theorem Table.get_set (t : Table α n) (i j : Fin n) (a : α) :
    (t.set i a).get j = if i = j then a else t.get j := by
  simp [Table.set, Table.get, List.getElem_set, Fin.ext_iff]

@[simp] theorem Table.get_set_self (t : Table α n) (i : Fin n) (a : α) : (t.set i a).get i = a := by
  simp [Table.get_set]

@[simp] theorem Table.get_set_ne (t : Table α n) {i j : Fin n} (h : i ≠ j) (a : α) : (t.set i a).get j = t.get j := by
  simp [Table.get_set, h]

@[simp] theorem Table.set_get_self (t : Table α n) (i : Fin n) : t.set i (t.get i) = t := by
  apply Table.ext_get
  intro j
  by_cases h : i = j
  · subst h; simp
  · simp [h]

@[simp] theorem Table.set_set (t : Table α n) (i : Fin n) (a b : α) : (t.set i a).set i b = t.set i b := by
  apply Table.ext_get
  intro j
  by_cases h : i = j
  · subst h; simp
  · simp [h]

theorem Table.get_modify (t : Table α n) (i j : Fin n) (f : α → α) :
    (t.modify i f).get j = if i = j then f (t.get j) else t.get j := by
  by_cases h : i = j
  · subst h; simp [Table.modify]
  · simp [Table.modify, h]

@[simp] theorem Table.get_modify_self (t : Table α n) (i : Fin n) (f : α → α) : (t.modify i f).get i = f (t.get i) := by
  simp [Table.get_modify]

@[simp] theorem Table.get_modify_ne (t : Table α n) {i j : Fin n} (h : i ≠ j) (f : α → α) :
    (t.modify i f).get j = t.get j := by
  simp [Table.get_modify, h]

/-- What a table holds, read from its rows. -/
theorem Table.mem_rows (t : Table α n) (a : α) : a ∈ t.rows ↔ ∃ i : Fin n, t.get i = a := by
  simp only [Table.get, List.mem_iff_getElem]
  constructor
  · rintro ⟨k, hk, rfl⟩
    exact ⟨⟨k, t.size ▸ hk⟩, rfl⟩
  · rintro ⟨i, rfl⟩
    exact ⟨i.val, by rw [t.size]; exact i.isLt, rfl⟩

/-- The rows of a table, one for each number in order. -/
theorem Table.rows_eq (t : Table α n) : t.rows = (List.finRange n).map t.get := by
  apply List.ext_getElem
  · simp [t.size]
  · intro k h1 h2
    simp [Table.get]

@[simp] theorem serialOf?_sourceOf (i : SerialId) : serialOf? (sourceOf i) = some i := by
  simp [serialOf?, sourceOf]

@[simp] theorem serialOf?_sourceSC : serialOf? sourceSC = none := rfl

theorem serialOf?_eq_some {src : SourceId} {i : SerialId} : serialOf? src = some i ↔ src = sourceOf i := by
  constructor
  · intro h
    unfold serialOf? at h
    split at h
    · cases h; rfl
    · cases h
  · rintro rfl; simp

end Sys2Proof
end

