-- ==== Sys2Proof/Laws/Ops.lean ====
section
/-! SUPPORT. Laws/Ops.lean: for each shared operation, one lemma that says what it can do. -/
namespace Sys2Proof.Machine

/-! ### The event queue (R105, R107, R110) -/

/-- An offer enters its record at the tail under the next number, or counts it as lost; nothing else. -/
theorem EventQueue.offer_spec (q : EventQueue) (clock : Word) (b : RecordBody) :
    (q.ordinaryCount < 63 ∧ q.lost = 0 ∧
      q.offer clock b = { q with
        records := q.records ++ [{ number := q.nextNumber, timestamp := clock, mark := .waiting, body := b }]
        nextNumber := q.nextNumber + 1 }) ∨
    (¬(q.ordinaryCount < 63 ∧ q.lost = 0) ∧ q.offer clock b = { q with lost := countUp q.lost }) := by
  by_cases h : q.ordinaryCount < 63 ∧ q.lost = 0
  · left
    simp [EventQueue.offer, EventQueue.accepts, EventQueue.enter, Config.ordinarySlots, h]
  · right
    have : q.accepts = false := by
      simp only [EventQueue.accepts, Config.ordinarySlots]
      simp only [not_and] at h
      by_cases h1 : q.ordinaryCount < 63 <;> simp [h1]
      exact h h1
    exact ⟨h, by simp [EventQueue.offer, this]⟩

/-- The oldest WAITING record is the first that is not SENT; marking it changes its mark alone. -/
theorem markOldestWaiting_spec {rs : List Record} {r : Record} {rs' : List Record}
    (h : markOldestWaiting rs = some (r, rs')) :
    ∃ before after, rs = before ++ r :: after ∧ rs' = before ++ { r with mark := .sent } :: after ∧
      (∀ x ∈ before, x.mark = .sent) ∧ r.mark = .waiting := by
  induction rs generalizing r rs' with
  | nil => cases h
  | cons a rs ih =>
    unfold markOldestWaiting at h
    split at h
    · cases h
      exact ⟨[], rs, rfl, rfl, by simp, ‹_›⟩
    · simp only [Option.map_eq_some_iff, Prod.exists] at h
      obtain ⟨x, xs, hx, he⟩ := h
      obtain ⟨b, c, h1, h2, h3, h4⟩ := ih hx
      cases he
      exact ⟨a :: b, c, by simp [h1], by simp [h2], by simpa using ⟨‹_›, h3⟩, h4⟩

/-- No record is WAITING where none can be marked. -/
theorem markOldestWaiting_none {rs : List Record} (h : markOldestWaiting rs = none) : ∀ x ∈ rs, x.mark = .sent := by
  induction rs with
  | nil => simp
  | cons a rs ih =>
    unfold markOldestWaiting at h
    split at h
    · cases h
    · simp only [Option.map_eq_none_iff] at h
      simpa using ⟨‹_›, ih h⟩

/-- The session block's choice of a notice, whole (R163, R167). -/
theorem State.chooseNotice_spec {s s' : State} {r : Record} (h : s.chooseNotice = some (r, s')) :
    ∃ o, s.session.opened = some o ∧
      ((∃ n rest, o.resend = n :: rest ∧ s.queue.records.find? (fun x => decide (x.number = n)) = some r ∧
          s' = { s with session := { s.session with
            opened := some { o with resend := rest, timer := o.timerAtHandover } } }) ∨
        (o.resend = [] ∧ o.flow = .flowing ∧ s.queue.sentCount < o.window ∧ ∃ rs,
          markOldestWaiting s.queue.records = some (r, rs) ∧
          s' = { s with
            queue := { s.queue with records := rs }
            session := { s.session with opened := some { o with timer := o.timerAtHandover } } })) := by
  unfold State.chooseNotice at h
  cases ho : s.session.opened with
  | none => simp [ho] at h
  | some o =>
    refine ⟨o, rfl, ?_⟩
    simp only [ho] at h
    cases hr : o.resend with
    | cons n rest =>
      simp only [hr] at h
      split at h
      · rename_i x hx
        cases h
        exact .inl ⟨n, rest, rfl, hx, rfl⟩
      · cases h
    | nil =>
      simp only [hr] at h
      split at h
      · rename_i hc
        split at h
        · rename_i x rs hx
          cases h
          exact .inr ⟨rfl, hc.1, hc.2, rs, hx, rfl⟩
        · cases h
      · cases h

@[simp] theorem State.chooseNotice_isNone_closed {s : State} (h : s.session.opened = none) : s.chooseNotice = none := by
  simp [State.chooseNotice, h]

/-! ### The arbiter (R154) -/

theorem State.linkHeld_iff (s : State) : s.linkHeld = true ↔ s.power.qualified = .absent := by
  simp [State.linkHeld]

theorem State.linkHeld_false_iff (s : State) : s.linkHeld = false ↔ s.power.qualified = .present := by
  cases h : s.power.qualified <;> simp [State.linkHeld, h]

/-- Everything the arbiter can do. -/
theorem State.arbitrate_spec (s : State) : s.Arbitrated s.arbitrate := by
  unfold State.arbitrate
  split
  · rename_i h
    left
    refine ⟨?_, rfl⟩
    rcases h with h | h
    · exact .inl ((State.linkHeld_iff s).1 h)
    · exact .inr (.inl h)
  · rename_i h
    simp only [not_or, Bool.not_eq_true, Decidable.not_not] at h
    have hp := (State.linkHeld_false_iff s).1 h.1
    split
    · rename_i r rest hr
      exact .inr (.inl ⟨hp, h.2, r, rest, hr, rfl⟩)
    · rename_i hr
      unfold State.beginNotice
      split
      · rename_i n s' hn
        have e := State.chooseNotice_frame hn
        refine .inr (.inr ⟨hp, h.2, hr, n, s', hn, ?_⟩)
        have : s'.link = s.link := by rw [e]
        rw [this]
      · rename_i hn
        exact .inl ⟨.inr (.inr ⟨hr, hn⟩), rfl⟩

/-! ### Replies (R152, R154, R171) -/

/-- What is saved of a reply (R171). -/
theorem State.saveReply_session (s : State) (r : Reply) : (s.saveReply r).session = s.session.saving r := by
  unfold State.saveReply SessionBlock.saving
  cases h : s.session.opened with
  | none => dsimp only; rw [Option.map_none, ← h]
  | some o =>
    dsimp only
    by_cases hr : r.seq = 0 ∨ r.kind = Kind.openSession.code
    · rw [if_pos hr, Option.map_some, if_pos (show r.seq = 0 ∨ r.kind = 0x03 from hr), ← h]
    · rw [if_neg hr, Option.map_some, if_neg (show ¬(r.seq = 0 ∨ r.kind = 0x03) from hr)]

/-- Everything that the answering of a request does around the request's own effect. -/
theorem State.reply_answered (s : State) (r : Reply) (hp : s.power.qualified = .present) : s.Answered (s.reply r) r := by
  have hh : s.linkHeld = false := (State.linkHeld_false_iff s).2 hp
  unfold State.reply
  -- the arbiter over a state whose reply queue is not empty
  have arb : ∀ a : State, a.power.qualified = .present → a.link.replies ≠ [] →
      (a.link.transmitter ≠ .idle ∧ a.arbitrate = a) ∨
      (a.link.transmitter = .idle ∧ ∃ h rest, a.link.replies = h :: rest ∧
        a.arbitrate = { a with link := { a.link with transmitter := .sendingReply h.frame } }) := by
    intro a ha hne
    rcases State.arbitrate_spec a with ⟨h, e⟩ | ⟨_, h2, h, rest, hr, e⟩ | ⟨_, _, h3, _⟩
    · rcases h with h | h | h
      · rw [ha] at h; cases h
      · exact .inl ⟨h, e⟩
      · exact absurd h.1 hne
    · exact .inr ⟨h2, h, rest, hr, e⟩
    · exact absurd h3 hne
  -- no notice goes first
  have plain : ∀ c : Nat, s.Answered ((({ s with choices := c } : State).saveReply r).enqueueReply r).arbitrate r := by
    intro c
    have hl : ∀ b : State, ((b.saveReply r).enqueueReply r).link = { b.link with replies := b.link.replies ++ [r] } := by
      intro b; simp
    rcases arb ((({ s with choices := c } : State).saveReply r).enqueueReply r) (by simp [hp]) (by simp) with
      ⟨ht, e⟩ | ⟨ht, h, rest, hr, e⟩
    · rw [e]
      refine ⟨?_, ?_, .inl ⟨?_, ?_, .inl ⟨?_, ?_⟩⟩⟩
      · unfold State.saveReply State.enqueueReply; dsimp only; split
        · rfl
        · split <;> rfl
      · simp
      · simp
      · simp only [State.enqueueReply_session, State.saveReply_session]
      · simpa using ht
      · simp
    · rw [e]
      refine ⟨?_, ?_, .inl ⟨?_, ?_, .inr ⟨?_, h, rest, ?_, rfl⟩⟩⟩
      · unfold State.saveReply State.enqueueReply; dsimp only; split
        · rfl
        · split <;> rfl
      · simp
      · simp
      · simp only [State.enqueueReply_session, State.saveReply_session]
      · simpa using ht
      · simpa using hr
  unfold State.noticeBeforeReply
  split
  · exact plain s.choices
  · rename_i hc
    simp only [not_or, hh, Decidable.not_not] at hc
    obtain ⟨-, hi, hr, hk⟩ := hc
    split
    · exact plain s.choices
    · rename_i x hx
      obtain ⟨n, s'⟩ := x
      dsimp only
      split
      · -- the notice goes first
        have hx' : ({ s with choices := s.choices + 1 } : State).chooseNotice =
            some (n, { s' with choices := s.choices + 1 }) := by
          obtain ⟨o, ho, h⟩ := State.chooseNotice_spec hx
          rcases h with ⟨m, rest, h1, h2, h3⟩ | ⟨h1, h2, h3, rs, h4, h5⟩
          · subst h3
            simp [State.chooseNotice, ho, h1, h2]
          · subst h5
            simp [State.chooseNotice, ho, h1, h2, h3, h4]
        have e := State.chooseNotice_frame hx
        have hl : s'.link = s.link := by rw [e]
        have hs : ∀ b : State, b.link.transmitter ≠ .idle → b.arbitrate = b := by
          intro b hb
          simp [State.arbitrate, hb]
        have hb : ({ s with choices := s.choices + 1 } : State).beginNotice =
            { s' with choices := s.choices + 1, link := { s.link with transmitter := .sendingNotice n.notice } } := by
          simp [State.beginNotice, hx', hl]
        rw [hb, hs _ (by simp)]
        refine ⟨?_, ?_, .inr ⟨hi, hr, hk, n, s', hx, ?_, ?_, ?_⟩⟩
        · rw [e]
          unfold State.saveReply State.enqueueReply; dsimp only; split
          · rfl
          · split <;> rfl
        · simp
        · simp
        · simp only [State.enqueueReply_session, State.saveReply_session]
        · simp
      · exact plain (s.choices + 1)

end Sys2Proof.Machine
end

