-- ==== Sys2Proof/Laws/Dispatch.lean ====
section
/-! SUPPORT. Laws/Dispatch.lean: the dispatch of a good frame (R151), check by check, and the refusal or execution that
each check leads to. -/
namespace Sys2Proof.Machine

@[simp] theorem Kind.ofByte?_code (k : Kind) : Kind.ofByte? k.code = some k := by
  cases k <;> rfl

/-- The KIND bytes that name a request kind are the codes of the kinds. -/
theorem Kind.ofByte?_eq_some {b : Byte} {k : Kind} (h : Kind.ofByte? b = some k) : b = k.code := by
  unfold Kind.ofByte? at h
  have := List.find?_some h
  simpa using (of_decide_eq_true this).symm

theorem Kind.ofByte?_eq_none_iff (b : Byte) : Kind.ofByte? b = none ↔ requestKinds.contains b = false := by
  have e : requestKinds = Kind.all.map Kind.code := by decide
  simp only [Kind.ofByte?, e, List.find?_eq_none, decide_eq_true_eq, List.contains_eq_mem, List.mem_map,
    decide_eq_false_iff_not, not_exists, not_and]

theorem Kind.needsSession_iff (k : Kind) :
    k.needsSession = false ↔ k = .identify ∨ k = .readStatus ∨ k = .openSession ∨ k = .restart := by
  cases k <;> simp [Kind.needsSession]

@[simp] theorem State.afterFrame_power (s : State) : s.afterFrame.power = s.power := rfl
@[simp] theorem State.afterFrame_session (s : State) : s.afterFrame.session = s.session := rfl
@[simp] theorem State.afterFrame_queue (s : State) : s.afterFrame.queue = s.queue := rfl
@[simp] theorem State.afterFrame_patterns (s : State) : s.afterFrame.patterns = s.patterns := rfl
@[simp] theorem State.afterFrame_trackers (s : State) : s.afterFrame.trackers = s.trackers := rfl
@[simp] theorem State.afterFrame_holdoffs (s : State) : s.afterFrame.holdoffs = s.holdoffs := rfl
@[simp] theorem State.afterFrame_shortFlags (s : State) : s.afterFrame.shortFlags = s.shortFlags := rfl
@[simp] theorem State.afterFrame_latchRequests (s : State) : s.afterFrame.latchRequests = s.latchRequests := rfl
@[simp] theorem State.afterFrame_sources (s : State) : s.afterFrame.sources = s.sources := rfl
@[simp] theorem State.afterFrame_serials (s : State) : s.afterFrame.serials = s.serials := rfl
@[simp] theorem State.afterFrame_contacts (s : State) : s.afterFrame.contacts = s.contacts := rfl
@[simp] theorem State.afterFrame_injectors (s : State) : s.afterFrame.injectors = s.injectors := rfl
@[simp] theorem State.afterFrame_wakes (s : State) : s.afterFrame.wakes = s.wakes := rfl
@[simp] theorem State.afterFrame_clock (s : State) : s.afterFrame.clock = s.clock := rfl
@[simp] theorem State.afterFrame_resetHeld (s : State) : s.afterFrame.resetHeld = s.resetHeld := rfl
@[simp] theorem State.afterFrame_pins (s : State) : s.afterFrame.pins =
    { s.pins with hrx := if s.link.breakTimer = some 0 then s.pins.hrx else .high } := rfl
@[simp] theorem State.afterFrame_choices (s : State) : s.afterFrame.choices = s.choices := rfl
@[simp] theorem State.afterFrame_pending (s : State) : s.afterFrame.pending = s.pending := rfl
@[simp] theorem State.afterFrame_link (s : State) : s.afterFrame.link =
    { s.link with
      receiver := .hunting
      byteReceiver := if s.link.breakTimer = some 0 then s.link.byteReceiver else .hunting
      breakTimer := if s.link.breakTimer = some 0 then some 0 else none } := rfl

theorem State.afterFrame_frameDone (s : State) : s.FrameDone s.afterFrame := rfl

theorem State.takesNoByte_false_iff (s : State) : s.takesNoByte = false ↔ s.TakesBytes := by
  simp [State.takesNoByte, State.TakesBytes, State.linkHeld_false_iff]

theorem State.resetDue_iff (s : State) : s.resetDue = true ↔ s.link.breakTimer = some 0 := by
  simp [State.resetDue, timerDue]

theorem State.takesNoFrame_false_iff (s : State) : s.takesNoFrame = false ↔ s.TakesFrames := by
  simp only [State.takesNoFrame, State.takesNoByte, State.resetDue, timerDue]
  cases h : s.linkHeld
  · rw [State.linkHeld_false_iff] at h
    by_cases hw : s.link.byteReceiver = .waiting <;> simp [State.TakesFrames, h, hw]
  · rw [State.linkHeld_iff] at h
    simp [State.TakesFrames, h]

/-- A good byte's end is what `afterFrame` says of the line. -/
theorem State.byteEnds_hunting (s : State) :
    { s.byteEnds with link := { s.byteEnds.link with receiver := .hunting } } = s.afterFrame := by
  by_cases h : s.link.breakTimer = some 0 <;> simp [State.byteEnds, State.afterFrame, State.resetDue, timerDue, h]

/-- A link that is held, or whose byte receiver waits for a high line with no link reset due, takes no frame (R142, R150,
R156). -/
theorem frameCommand_not_taken {s : State} {q k : Byte} {p : List Byte} (h : ¬s.TakesFrames) (hp : p.length ≤ 248) :
    frameCommand q k p s = .next s := by
  have : s.takesNoFrame = true := by
    rw [← Bool.not_eq_false, State.takesNoFrame_false_iff]
    exact h
  simp [frameCommand, State.goodFrame, hp, this]

/-- A frame that the link takes is dispatched. -/
theorem frameCommand_dispatch {s : State} {q k : Byte} {p : List Byte} (h : s.TakesFrames)
    (hp : p.length ≤ 248) : frameCommand q k p s = .next (s.afterFrame.dispatch q k p) := by
  have := s.takesNoFrame_false_iff.2 h
  simp only [frameCommand, State.goodFrame, hp, this, if_true, Bool.false_eq_true, if_false, State.byteEnds_hunting]

/-- Checks 1 to 5 pass: the block that owns the request takes it (R151). -/
theorem frameCommand_reaches {s : State} {q : Byte} {k : Kind} {p : List Byte} (h : s.Reaches q k) (hp : p.length ≤ 248) :
    frameCommand q k.code p s = .next (s.afterFrame.execute q k p) := by
  obtain ⟨h1, h2, h3, h4, h5⟩ := h
  rw [frameCommand_dispatch h1 hp]
  congr 1
  have hr : ¬(4 ≤ s.link.replies.length) := by omega
  have hs : ¬(s.session.isOpen = false ∧ k.needsSession = true) := by
    rintro ⟨a, b⟩
    have : k.needsSession ≠ false := by simp [b]
    rw [ne_eq, Kind.needsSession_iff] at this
    simp only [not_or] at this
    rcases h4 with h | h | h | h | h
    · exact this.1 h
    · exact this.2.1 h
    · exact this.2.2.1 h
    · exact this.2.2.2 h
    · cases ho : s.session.opened with
      | none => exact h ho
      | some o => simp [SessionBlock.isOpen, ho] at a
  have hd : s.repeated? q k = none := by
    unfold State.repeated?
    cases ho : s.session.opened with
    | none => rfl
    | some o =>
      cases hv : o.saved with
      | none => simp [hv]
      | some r =>
        simp only [hv]
        rcases h5 with h | h
        · simp [h]
        · have := h o (by simp [ho]) r (by simp [hv])
          split
          · rename_i hc; exact absurd ⟨hc.2.1, hc.2.2⟩ this
          · rfl
  have hd' : s.afterFrame.repeated? q k = none := hd
  unfold State.dispatch
  simp only [Config.replySlots, State.afterFrame_session, h3, Kind.ofByte?_code, hs, hd', if_false]
  rw [if_neg]
  exact hr

/-- An accepted request: its block's effect, and its reply (R151, R152). -/
theorem frameCommand_accepts {s : State} {q : Byte} {k : Kind} {p items : List Byte} {s' : State} (h : s.Reaches q k)
    (hp : p.length ≤ 248) (ha : answerOf k p s.afterFrame = .accept items s') (hs : s'.power = s.power) :
    ∃ t, frameCommand q k.code p s = .next t ∧
      s'.Answered t { seq := q, kind := k.code, payload := 0x00 :: items, restart := decide (k = .restart) } := by
  refine ⟨_, frameCommand_reaches h hp, ?_⟩
  unfold State.execute
  rw [ha]
  exact State.reply_answered s' _ (by rw [hs]; exact h.1.1)

/-- A request that its block refuses (R151, R152): its reply carries the status alone, and nothing else is done. -/
theorem frameCommand_refuses {s : State} {q : Byte} {k : Kind} {p : List Byte} {st : Status} (h : s.Reaches q k)
    (hp : p.length ≤ 248) (ha : answerOf k p s.afterFrame = .refuse st) :
    ∃ t, frameCommand q k.code p s = .next t ∧
      s.afterFrame.Answered t { seq := q, kind := k.code, payload := [st.code], restart := false } := by
  refine ⟨_, frameCommand_reaches h hp, ?_⟩
  unfold State.execute
  rw [ha]
  exact State.reply_answered s.afterFrame _ h.1.1

/-- Every command that stands for a frame is that frame's command. -/
theorem exec_frame {i : Instr} {q k : Byte} {p : List Byte} (h : i.frame? = some (q, k, p)) (s : State) :
    exec i s = frameCommand q k p s := by
  cases i <;> first | (cases h; rfl) | cases h

/-- An accepted request as a command, with the state `e` after its own effect and its reply `r`. -/
theorem exec_accepts {s s' e : State} {i : Instr} {q : Byte} {k : Kind} {p items : List Byte} {r : Reply}
    (hf : i.frame? = some (q, k.code, p)) (h : s.Reaches q k) (hp : p.length ≤ 248)
    (ha : answerOf k p s.afterFrame = .accept items s') (hs : s'.power = s.power) (he : e = s')
    (hr : r = { seq := q, kind := k.code, payload := 0x00 :: items, restart := decide (k = .restart) }) :
    ∃ t, exec i s = .next t ∧ e.Answered t r := by
  rw [exec_frame hf, he, hr]
  exact frameCommand_accepts h hp ha hs

/-- A refused request as a command. -/
theorem exec_refuses {s : State} {i : Instr} {q : Byte} {k : Kind} {p : List Byte} {st : Status} {r : Reply}
    (hf : i.frame? = some (q, k.code, p)) (h : s.Reaches q k) (hp : p.length ≤ 248)
    (ha : answerOf k p s.afterFrame = .refuse st)
    (hr : r = { seq := q, kind := k.code, payload := [st.code], restart := false }) :
    ∃ t, exec i s = .next t ∧ s.afterFrame.Answered t r := by
  rw [exec_frame hf, hr]
  exact frameCommand_refuses h hp ha

/-! ### Sessions and acknowledgements -/

/-- A close (R161, R112). -/
theorem State.closeSession_spec (s : State) (reason : CloseReason) :
    (s.session.opened = none ∧ s.closeSession reason = s) ∨
    (s.session.opened ≠ none ∧ s.closeSession reason =
      { s with queue := s.queue.allWaiting, session := { s.session with opened := none, lastClose := reason } }) := by
  unfold State.closeSession
  cases h : s.session.opened with
  | none => exact .inl ⟨rfl, rfl⟩
  | some o => exact .inr ⟨by simp, rfl⟩

/-- What an acknowledgement removes (R113, R114): the records up to and including the first that carries the number, which is
SENT. -/
theorem ackSplit_spec {n : Half} {rs gone rest : List Record} (h : ackSplit n rs = some (gone, rest)) :
    rs = gone ++ rest ∧ ∃ before r, gone = before ++ [r] ∧ r.number = n ∧ r.isSent = true ∧ ∀ x ∈ before, x.number ≠ n := by
  induction rs generalizing gone rest with
  | nil => cases h
  | cons a rs ih =>
    unfold ackSplit at h
    split at h
    · rename_i ha
      split at h
      · rename_i hs
        cases h
        exact ⟨rfl, [], a, rfl, ha, hs, by simp⟩
      · cases h
    · rename_i ha
      simp only [Option.map_eq_some_iff, Prod.exists] at h
      obtain ⟨g, t, hg, he⟩ := h
      cases he
      obtain ⟨h1, b, r, h2, h3, h4, h5⟩ := ih hg
      exact ⟨by simp [h1], a :: b, r, by simp [h2], h3, h4, by simpa using ⟨ha, h5⟩⟩

/-- When an acknowledgement is refused (R113): no record carries the number, or the first that does is WAITING. -/
theorem ackSplit_none {n : Half} {rs : List Record} (h : ackSplit n rs = none) :
    (∀ x ∈ rs, x.number ≠ n) ∨ ∃ before r rest, rs = before ++ r :: rest ∧ (∀ x ∈ before, x.number ≠ n) ∧ r.number = n ∧
      r.isSent = false := by
  induction rs with
  | nil => simp
  | cons a rs ih =>
    unfold ackSplit at h
    split at h
    · rename_i ha
      split at h
      · cases h
      · rename_i hs
        exact .inr ⟨[], a, rs, rfl, by simp, ha, by simpa using hs⟩
    · rename_i ha
      simp only [Option.map_eq_none_iff] at h
      rcases ih h with h | ⟨b, r, t, h1, h2, h3, h4⟩
      · exact .inl (by simpa using ⟨ha, h⟩)
      · exact .inr ⟨a :: b, r, t, by simp [h1], by simpa using ⟨ha, h2⟩, h3, h4⟩

/-! ### Trackers and holdoffs -/

/-- A tracker after a release: still there, or released (R24). -/
theorem State.releaseTrackers_get (s : State) (p : Tracker → Bool) (i : TrackerId) :
    (s.releaseTrackers p).trackers.get i = (s.trackers.get i).filter fun t => !p t := by
  simp

/-- The holdoff table after one entry takes a value. -/
theorem setHoldoff_get (h : Table (Table Timer 7) 32) (p q : PatternId) (src c : SourceId) (t : Timer) :
    ((setHoldoff h p src t).get q).get c = if p = q ∧ src = c then t else (h.get q).get c := by
  unfold setHoldoff
  rw [Table.get_modify]
  by_cases h1 : p = q
  · subst h1
    simp [Table.get_set]
  · simp [h1]

/-- A free tracker is free, and every lower one is in use (R24). -/
theorem freeTracker_spec {ts : Table (Option Tracker) 24} {i : TrackerId} (h : freeTracker ts = some i) :
    ts.get i = none ∧ ∀ j < i, (ts.get j).isSome = true := by
  unfold freeTracker at h
  have h1 := List.find?_some h
  refine ⟨by simpa using h1, ?_⟩
  intro j hj
  rw [List.find?_eq_some_iff_getElem] at h
  obtain ⟨-, k, hk, he, hlt⟩ := h
  have hki : k = i.val := by
    have := congrArg Fin.val he
    simpa using this
  have hjk : j.val < k := by rw [hki]; exact hj
  have := hlt j.val hjk
  simpa [Option.isSome_iff_ne_none] using this

/-- The pool is full where no tracker is free (R36). -/
theorem freeTracker_none {ts : Table (Option Tracker) 24} (h : freeTracker ts = none) (i : TrackerId) :
    (ts.get i).isSome = true := by
  unfold freeTracker at h
  rw [List.find?_eq_none] at h
  have := h i (List.mem_finRange i)
  simpa [Option.isSome_iff_ne_none] using this

end Sys2Proof.Machine
end

