-- ==== Sys2Proof/Laws/Requests.lean ====
section
/-! SUPPORT. Laws/Requests.lean: what no request changes at the block that owns it, and what dispatch leaves of the state. -/
namespace Sys2Proof.Machine

/-- Acknowledged records change report flags alone. -/
@[simp] theorem recordLeaves_foldl_frame (rs : List Record) (s : State) :
    (rs.foldl State.recordLeaves s).link = s.link ∧ (rs.foldl State.recordLeaves s).power = s.power ∧
      (rs.foldl State.recordLeaves s).resetHeld = s.resetHeld ∧ (rs.foldl State.recordLeaves s).pins = s.pins ∧
      (rs.foldl State.recordLeaves s).choices = s.choices ∧ (rs.foldl State.recordLeaves s).pending = s.pending :=
  ⟨foldl_keeps State.recordLeaves State.link (by simp) rs s, foldl_keeps State.recordLeaves State.power (by simp) rs s,
    foldl_keeps State.recordLeaves State.resetHeld (by simp) rs s, foldl_keeps State.recordLeaves State.pins (by simp) rs s,
    foldl_keeps State.recordLeaves State.choices (by simp) rs s, foldl_keeps State.recordLeaves State.pending (by simp) rs s⟩

/-- What an accepted request leaves as it was: link, host power, reset, pins, and the model's own fields. -/
def Answer.KeepsLink (a : Answer) (s : State) : Prop :=
  match a with
  | .refuse _ => True
  | .accept _ t => t.link = s.link ∧ t.power = s.power ∧ t.resetHeld = s.resetHeld ∧ t.pins = s.pins ∧
      t.choices = s.choices ∧ t.pending = s.pending

/-- No request changes the link, the host-power monitor, the reset or a pin at its owning block. -/
theorem answerOf_keepsLink (k : Kind) (p : List Byte) (s : State) : (answerOf k p s).KeepsLink s := by
  cases k
  all_goals
    simp only [answerOf, answerIdentify, answerReadStatus, answerOpenSession, answerCloseSession, answerHoldNotices,
      answerReleaseNotices, answerAckEvents, answerSetClock, answerRestart, answerSetSource, answerReadSource, answerInject,
      answerCancelInject, answerSetContact, answerReadContacts, answerDefinePattern, answerArmPattern, answerStopPattern,
      answerErasePattern, answerReadPattern, answerReadTrackers, answerFlushTrackers, answerSetWake, answerClearWake,
      answerReadWake]
    repeat' split
    all_goals simp [Answer.KeepsLink]

theorem answerOf_accept_keeps {k : Kind} {p items : List Byte} {s t : State} (h : answerOf k p s = .accept items t) :
    t.link = s.link ∧ t.power = s.power ∧ t.resetHeld = s.resetHeld ∧ t.pins = s.pins ∧ t.choices = s.choices ∧
      t.pending = s.pending := by
  have := answerOf_keepsLink k p s
  rwa [h] at this

end Sys2Proof.Machine
end

