-- ==== Sys2Proof/Laws/Sources.lean ====
section
/-! SUPPORT. Laws/Sources.lean: what the operations on sources, receivers, injection queues and contacts leave. -/
namespace Sys2Proof.Machine

/-- A record enters exactly where there is room and none has been lost (R105). -/
theorem EventQueue.accepts_iff (q : EventQueue) : q.accepts = true ↔ q.ordinaryCount < 63 ∧ q.lost = 0 := by
  unfold EventQueue.accepts
  rw [Bool.and_eq_true, decide_eq_true_eq, decide_eq_true_eq]
  rfl

/-- A receiver of a serial source takes a value. -/
theorem State.setReceiver_serial (s : State) (i : SerialId) (f : SerialId → Receiver → Receiver) :
    s.setReceiver (sourceOf i) f =
      { s with serials := s.serials.set i { s.serials.get i with receiver := f i (s.serials.get i).receiver } } := by
  simp only [State.setReceiver, serialOf?_sourceOf, Table.modify]

/-- SC has no receiver. -/
theorem State.setReceiver_SC (s : State) (f : SerialId → Receiver → Receiver) : s.setReceiver sourceSC f = s := rfl

/-- A source takes a state. -/
theorem State.setSourceState_eq (s : State) (src : SourceId) (st : SourceState) :
    s.setSourceState src st = { s with sources := s.sources.set src { s.sources.get src with state := st } } := rfl

/-- The judging of a character (R56), with its data bits and its ones written out. -/
theorem LineConfig.judge_eq (c : LineConfig) (data : Byte) (parityBit stopBit : Level) :
    c.judge data parityBit stopBit =
      let bits : Byte := if c.dataBits = .seven then data &&& 0x7F else data
      let ones := (List.range 8).countP (fun k => bits.getLsbD k) + (if parityBit = .high then 1 else 0)
      if stopBit = .low ∧ bits = 0 then .error .lineBreak
      else if stopBit = .low then .error .framing
      else if (c.parity = .even ∧ ones % 2 = 1) ∨ (c.parity = .odd ∧ ones % 2 = 0) then .error .parity
      else .value bits := by
  have hr : c.dataBits.read data = if c.dataBits = .seven then data &&& 0x7F else data := by
    cases h : c.dataBits <;> rfl
  unfold LineConfig.judge parityAgrees
  rw [hr]
  dsimp only
  generalize (if c.dataBits = .seven then data &&& 0x7F else data) = b
  generalize (List.range 8).countP (fun k => b.getLsbD k) + (if parityBit = .high then 1 else 0) = n
  by_cases h1 : stopBit = .low
  · simp only [h1, true_and, if_true]
  · simp only [h1, false_and, if_false]
    cases h : c.parity
    · simp
    · rcases Nat.mod_two_eq_zero_or_one n with h2 | h2 <;> simp [h2]
    · rcases Nat.mod_two_eq_zero_or_one n with h2 | h2 <;> simp [h2]

/-- An injection queue's end of run (R95, R97, R99). -/
theorem State.endRun_eq (s : State) (src : SourceId) (reason : RunEnd) :
    s.endRun src reason =
      ({ s with injectors := s.injectors.set src { queue := [], delivered := 0, cancelled := 0, timer := none } }).offer
        (.injectDone src (s.injectors.get src).delivered
          (countUpBy (s.injectors.get src).cancelled (s.injectors.get src).queue.length) reason) := rfl

end Sys2Proof.Machine
end

