-- ==== Sys2Proof/Laws/Engine.lean ====
section
/-! SUPPORT. Laws/Engine.lean: the three parts of the judging of one arrival (section 2.3), each with what it can do. -/
namespace Sys2Proof.Machine

/-! ### Patterns that take part, and trackers -/

/-- A pattern that takes part in an arrival (R28). -/
theorem State.participant_eq_some {s : State} {src : SourceId} {p : PatternId} {d : Definition} :
    s.participant src p = some d ↔
      ∃ e, s.patterns.get p = some e ∧ e.phase = .armed ∧ d.condition.holds s.power.qualified = true ∧
        d.lists src = true ∧ e.definition = d := by
  unfold State.participant
  cases h : s.patterns.get p with
  | none => simp
  | some e =>
    dsimp only
    constructor
    · intro hd
      split at hd
      · rename_i hc
        cases hd
        exact ⟨e, rfl, hc.1, hc.2.1, hc.2.2, rfl⟩
      · cases hd
    · rintro ⟨e', he, h1, h2, h3, rfl⟩
      cases he
      rw [if_pos ⟨h1, h2, h3⟩]

/-- Taking part depends on the pattern table and on host power alone. -/
theorem State.participant_congr {s t : State} (hp : t.patterns = s.patterns) (hq : t.power.qualified = s.power.qualified)
    (src : SourceId) (p : PatternId) : t.participant src p = s.participant src p := by
  unfold State.participant
  rw [hp, hq]

theorem State.mem_usedTrackers (s : State) (t : Tracker) : t ∈ s.usedTrackers ↔ ∃ i, s.trackers.get i = some t := by
  unfold State.usedTrackers
  simp only [List.mem_filterMap, id_eq, exists_eq_right]
  exact Table.mem_rows s.trackers (some t)

theorem hasTracker_iff (ts : Table (Option Tracker) 24) (p : PatternId) (src : SourceId) :
    hasTracker ts p src = true ↔ ∃ i t, ts.get i = some t ∧ t.pattern = p ∧ t.source = src := by
  unfold hasTracker
  simp only [List.any_eq_true, Table.mem_rows]
  constructor
  · rintro ⟨slot, ⟨i, rfl⟩, h⟩
    cases ht : ts.get i with
    | none => simp [ht] at h
    | some t =>
      simp only [ht, decide_eq_true_eq] at h
      exact ⟨i, t, ht, h⟩
  · rintro ⟨i, t, ht, h⟩
    exact ⟨some t, ⟨i, ht⟩, by simpa using h⟩

/-! ### Part 1 (R29 to R32) -/

/-- Where no tracker on the source belongs to a pattern that takes part, part 1 judges none. -/
theorem State.verdict_none {s : State} {src : SourceId} {sym : Symbol} {t : Tracker}
    (h : t.source ≠ src ∨ s.participant src t.pattern = none) : s.verdict src sym t = none := by
  unfold State.verdict
  split
  · rename_i hs
    rcases h with h | h
    · exact absurd hs h
    · simp [h]
  · rfl

/-- A tracker that is judged is judged by its pattern's definition. -/
theorem State.verdict_some {s : State} {src : SourceId} {sym : Symbol} {t : Tracker} {d : Definition} (hs : t.source = src)
    (hd : s.participant src t.pattern = some d) : s.verdict src sym t = some (t.judge d sym) := by
  simp [State.verdict, hs, hd]

/-- A completion found by part 1: its tracker and its pattern's definition. -/
theorem State.completionOf_eq_some {s : State} {src : SourceId} {sym : Symbol} {t : Tracker} {c : Completion}
    (h : s.completionOf src sym t = some c) : t.source = src ∧ c.pattern = t.pattern ∧ c.start = t.start ∧
      c.captured = t.captureNext sym ∧ ∃ d, s.participant src t.pattern = some d ∧ d.passesOver sym = false ∧
        d.matchesStep t.next sym = true ∧ t.next + 1 = d.steps.length := by
  unfold State.completionOf at h
  split at h
  · rename_i c' hv
    cases h
    unfold State.verdict at hv
    split at hv
    · rename_i hs
      simp only [Option.map_eq_some_iff] at hv
      obtain ⟨d, hd, hj⟩ := hv
      unfold Tracker.judge at hj
      split at hj
      · cases hj
      rename_i hp
      split at hj
      · rename_i hm
        split at hj
        · rename_i hl
          cases hj
          exact ⟨hs, rfl, rfl, rfl, d, hd, by simpa using hp, hm, hl⟩
        · cases hj
      · cases hj
    · cases hv
  all_goals cases h

/-- A value for a holdoff entry, among those that part 1 starts. -/
theorem foldl_setHoldoff_get {src : SourceId} {p : PatternId} {time : Nat} (l : List (PatternId × Nat))
    (h : Table (Table Timer 7) 32) (hl : ∀ x ∈ l, x.1 = p → x.2 = time) :
    ((l.foldl (fun h x => setHoldoff h x.1 src (some x.2)) h).get p).get src =
      if ∃ x ∈ l, x.1 = p then some time else (h.get p).get src := by
  induction l generalizing h with
  | nil => simp
  | cons a l ih =>
    rw [List.foldl_cons, ih _ (fun x hx => hl x (by simp [hx]))]
    simp only [setHoldoff_get, and_true]
    by_cases h1 : ∃ x ∈ l, x.1 = p
    · have : ∃ x ∈ a :: l, x.1 = p := by obtain ⟨x, hx, e⟩ := h1; exact ⟨x, by simp [hx], e⟩
      simp only [h1, this, if_true]
    · by_cases h2 : a.1 = p
      · have : ∃ x ∈ a :: l, x.1 = p := ⟨a, by simp, h2⟩
        simp only [h1, this, h2, if_true, if_false, hl a (by simp) h2]
      · have : ¬∃ x ∈ a :: l, x.1 = p := by
          rintro ⟨x, hx, e⟩
          rcases List.mem_cons.1 hx with rfl | hx
          · exact h2 e
          · exact h1 ⟨x, hx, e⟩
        simp only [h1, this, h2, if_false]

/-- Holdoffs at other sources, and of patterns with no mismatch, stay. -/
theorem foldl_setHoldoff_get_other {src c : SourceId} {p : PatternId} (l : List (PatternId × Nat))
    (h : Table (Table Timer 7) 32) (hl : src ≠ c ∨ ∀ x ∈ l, x.1 ≠ p) :
    ((l.foldl (fun h x => setHoldoff h x.1 src (some x.2)) h).get p).get c = (h.get p).get c := by
  induction l generalizing h with
  | nil => rfl
  | cons a l ih =>
    rw [List.foldl_cons, ih _ (by rcases hl with hl | hl; exact .inl hl; exact .inr fun x hx => hl x (by simp [hx]))]
    rw [setHoldoff_get, if_neg]
    rintro ⟨h1, h2⟩
    rcases hl with hl | hl
    · exact hl h2
    · exact hl a (by simp) h1

/-- A holdoff that part 1 starts: its tracker mismatched, and its pattern's policy is HOLDOFF with that time (R32). -/
theorem State.holdoffOf_eq_some {s : State} {src : SourceId} {sym : Symbol} {t : Tracker} {x : PatternId × Nat}
    (h : s.holdoffOf src sym t = some x) : t.source = src ∧ x.1 = t.pattern ∧
      ∃ d, s.participant src t.pattern = some d ∧ d.policy = .holdoff x.2 ∧ d.passesOver sym = false ∧
        d.matchesStep t.next sym = false := by
  unfold State.holdoffOf at h
  split at h
  · rename_i hv
    split at h
    · rename_i time hp
      cases h
      simp only [Option.map_eq_some_iff] at hp
      obtain ⟨d, hd, hp⟩ := hp
      unfold State.verdict at hv
      split at hv
      · rename_i hs
        rw [hd] at hv
        simp only [Option.map_some, Option.some.injEq] at hv
        unfold Tracker.judge at hv
        split at hv
        · cases hv
        rename_i h1
        split at hv
        · split at hv <;> cases hv
        rename_i h2
        exact ⟨hs, rfl, d, hd, hp, by simpa using h1, by simpa using h2⟩
      · cases hv
    · cases h
    · cases h
  all_goals cases h

/-- Part 1 leaves everything as it was where no tracker is judged. -/
theorem State.judgeTrackers_none {s : State} {src : SourceId} {sym : Symbol}
    (h : ∀ i, ∀ t ∈ s.trackers.get i, t.source ≠ src ∨ s.participant src t.pattern = none) :
    s.judgeTrackers src sym = s := by
  have hv : ∀ i, ∀ t ∈ s.trackers.get i, s.verdict src sym t = none := fun i t ht => State.verdict_none (h i t ht)
  have hl : s.usedTrackers.filterMap (s.holdoffOf src sym) = [] := by
    rw [List.filterMap_eq_nil_iff]
    intro t ht
    obtain ⟨i, hi⟩ := (s.mem_usedTrackers t).1 ht
    unfold State.holdoffOf
    rw [hv i t hi]
  have ht : (s.trackers.map fun slot => slot.bind (s.trackerAfter src sym)) = s.trackers := by
    apply Table.ext_get
    intro i
    rw [Table.get_map]
    cases hi : s.trackers.get i with
    | none => rfl
    | some t =>
      simp only [Option.bind_some]
      unfold State.trackerAfter
      rw [hv i t hi]
  unfold State.judgeTrackers
  rw [hl, ht]
  rfl

/-! ### Part 2 (R33 to R37) -/

/-- A scan in which one number alone does anything. -/
theorem foldl_only {α β : Type} [DecidableEq β] (f : α → β → α) (p : β) (l : List β) (hn : l.Nodup) (hp : p ∈ l) (a : α)
    (h : ∀ a q, q ≠ p → f a q = a) : l.foldl f a = f a p := by
  have idle : ∀ (l : List β) (a : α), p ∉ l → l.foldl f a = a := by
    intro l
    induction l with
    | nil => intros; rfl
    | cons b l ih =>
      intro a hm
      rw [List.foldl_cons, h a b (fun e => hm (by simp [e]))]
      exact ih a (fun e => hm (by simp [e]))
  induction l generalizing a with
  | nil => cases hp
  | cons b l ih =>
    rw [List.foldl_cons]
    by_cases hb : b = p
    · subst hb
      exact idle l _ (List.nodup_cons.1 hn).1
    · rw [h a b hb]
      exact ih (List.nodup_cons.1 hn).2 (by rcases List.mem_cons.1 hp with e | e; exact absurd e.symm hb; exact e) a

/-- The scan where one pattern alone takes part. -/
theorem State.starts_lone {s : State} {done : List Completion} {src : SourceId} {v : Byte} {p : PatternId}
    (h : ∀ p', p' ≠ p → s.participant src p' = none) :
    s.starts done src (.value v) =
      s.considerStart done src v { trackers := s.trackers, completions := [], firstLost := none } p := by
  unfold State.starts
  exact foldl_only _ p _ (List.nodup_finRange 32) (List.mem_finRange p) _
    (fun a q hq => by unfold State.considerStart; rw [h q hq])

/-- An error symbol starts none (R33). -/
theorem State.starts_error (s : State) (done : List Completion) (src : SourceId) (k : ErrorKind) :
    s.starts done src (.error k) = { trackers := s.trackers, completions := [], firstLost := none } := rfl

/-- What one pattern of the scan can do (R33 to R37). -/
theorem State.considerStart_spec (s : State) (done : List Completion) (src : SourceId) (v : Byte) (a : Starts)
    (p : PatternId) :
    s.considerStart done src v a p = a ∨
    ∃ d, s.participant src p = some d ∧ s.mayStart a done p d src v = true ∧
      ((d.steps.length = 1 ∧ s.considerStart done src v a p = { a with completions := a.completions ++
          [{ pattern := p, start := s.clock, captured := if d.capture = true then some [v] else none }] }) ∨
      (d.steps.length ≠ 1 ∧ ∃ i, freeTracker a.trackers = some i ∧ s.considerStart done src v a p =
          { a with trackers := a.trackers.set i (some (claimedTracker p d src v s.clock)) }) ∨
      (d.steps.length ≠ 1 ∧ freeTracker a.trackers = none ∧ s.considerStart done src v a p =
          { a with firstLost := some (a.firstLost.getD p) })) := by
  unfold State.considerStart
  cases hd : s.participant src p with
  | none => exact .inl rfl
  | some d =>
    dsimp only
    by_cases hm : s.mayStart a done p d src v = true
    · right
      refine ⟨d, rfl, hm, ?_⟩
      rw [if_pos hm]
      unfold Starts.start
      by_cases hl : d.steps.length = 1
      · exact .inl ⟨hl, by rw [if_pos hl]⟩
      · right
        rw [if_neg hl]
        cases hf : freeTracker a.trackers with
        | some i => exact .inl ⟨hl, i, rfl, rfl⟩
        | none =>
          refine .inr ⟨hl, rfl, ?_⟩
          cases a.firstLost <;> rfl
    · left
      rw [if_neg hm]

/-- The completions of the scan: patterns scanned, each once, that take part and have not completed in part 1. -/
theorem State.foldl_considerStart_completions (s : State) (done : List Completion) (src : SourceId) (v : Byte)
    (l : List PatternId) (a : Starts) :
    ∃ new, (l.foldl (s.considerStart done src v) a).completions = a.completions ++ new ∧
      (new.map Completion.pattern).Sublist l ∧
      ∀ c ∈ new, (∃ d, s.participant src c.pattern = some d) ∧ ∀ x ∈ done, x.pattern ≠ c.pattern := by
  induction l generalizing a with
  | nil => exact ⟨[], by simp, List.Sublist.refl _, by simp⟩
  | cons p l ih =>
    rw [List.foldl_cons]
    obtain ⟨new, h1, h2, h3⟩ := ih (s.considerStart done src v a p)
    rcases s.considerStart_spec done src v a p with e | ⟨d, hd, hm, ⟨_, e⟩ | ⟨_, i, _, e⟩ | ⟨_, _, e⟩⟩
    · exact ⟨new, by rw [h1, e], h2.cons p, h3⟩
    · refine ⟨_ :: new, by rw [h1, e, List.append_assoc]; rfl, ?_, ?_⟩
      · exact h2.cons_cons p
      · intro c hc
        rcases List.mem_cons.1 hc with rfl | hc
        · refine ⟨⟨d, hd⟩, fun x hx hxp => ?_⟩
          simp only [State.mayStart, Bool.and_eq_true, Bool.not_eq_true'] at hm
          have := hm.1.1.1.2
          rw [List.any_eq_false] at this
          exact this x hx (by simpa using hxp)
        · exact h3 c hc
    · exact ⟨new, by rw [h1, e], h2.cons p, h3⟩
    · exact ⟨new, by rw [h1, e], h2.cons p, h3⟩

/-- Part 1's completions belong to different patterns, where no two trackers share pattern and source. -/
theorem State.done_nodup {s : State} (hp : s.PoolOk) (src : SourceId) (sym : Symbol) :
    ((s.usedTrackers.filterMap (s.completionOf src sym)).map Completion.pattern).Nodup := by
  have e : s.usedTrackers = (List.finRange 24).filterMap s.trackers.get := by
    unfold State.usedTrackers
    rw [Table.rows_eq, List.filterMap_map]
    rfl
  rw [e, List.filterMap_filterMap, List.Nodup, List.pairwise_map, List.pairwise_filterMap]
  refine List.Pairwise.imp ?_ (List.nodup_finRange 24)
  intro i j hij c hc c' hc' hcc
  simp only [Option.bind_eq_some_iff] at hc hc'
  obtain ⟨t, ht, hc⟩ := hc
  obtain ⟨u, hu, hc'⟩ := hc'
  obtain ⟨h1, h2, -⟩ := State.completionOf_eq_some hc
  obtain ⟨h3, h4, -⟩ := State.completionOf_eq_some hc'
  exact hij (hp.2 i j t ht u hu (by rw [← h2, ← h4, hcc]) (h1.trans h3.symm))

/-- Everything that completes in one arrival: each pattern once, and only patterns that take part (R28, R30, R33). -/
theorem State.completions_spec {s : State} (hp : s.PoolOk) (src : SourceId) (sym : Symbol) :
    let done := s.usedTrackers.filterMap (s.completionOf src sym)
    let cs := done ++ ((s.judgeTrackers src sym).starts done src sym).completions
    (cs.map Completion.pattern).Nodup ∧ ∀ c ∈ cs, ∃ d, s.participant src c.pattern = some d := by
  intro done cs
  have hdone : ∀ c ∈ done, ∃ d, s.participant src c.pattern = some d := by
    intro c hc
    obtain ⟨t, _, ht⟩ := List.mem_filterMap.1 hc
    obtain ⟨_, h2, _, _, d, h3, _⟩ := State.completionOf_eq_some ht
    exact ⟨d, by rw [h2]; exact h3⟩
  cases sym with
  | error k =>
    have : cs = done := by show done ++ _ = done; rw [State.starts_error]; exact List.append_nil _
    rw [this]
    exact ⟨State.done_nodup hp src _, hdone⟩
  | value v =>
    obtain ⟨new, h1, h2, h3⟩ := (s.judgeTrackers src (.value v)).foldl_considerStart_completions done src v
      (List.finRange 32) { trackers := (s.judgeTrackers src (.value v)).trackers, completions := [], firstLost := none }
    have : cs = done ++ new := by
      show done ++ _ = done ++ new
      unfold State.starts
      rw [h1]
      rfl
    rw [this]
    refine ⟨?_, ?_⟩
    · rw [List.map_append, List.nodup_append]
      refine ⟨State.done_nodup hp src _, h2.nodup (List.nodup_finRange 32), ?_⟩
      intro p hp1 q hq hpq
      obtain ⟨c, hc, rfl⟩ := List.mem_map.1 hp1
      obtain ⟨c', hc', rfl⟩ := List.mem_map.1 hq
      exact (h3 c' hc').2 c hc hpq
    · intro c hc
      rcases List.mem_append.1 hc with hc | hc
      · exact hdone c hc
      · obtain ⟨d, hd⟩ := (h3 c hc).1
        exact ⟨d, hd⟩

/-! ### Part 3 (R38 to R42) -/

/-- With no completion nothing is done. -/
theorem State.takeCompletions_nil (s : State) (src : SourceId) : s.takeCompletions src [] = s := by
  have : inIndexOrder [] = [] := by simp [inIndexOrder]
  unfold State.takeCompletions State.consumes
  rw [this]
  rfl

theorem inIndexOrder_singleton (c : Completion) : inIndexOrder [c] = [c] := by
  unfold inIndexOrder
  have h : ∀ l : List PatternId, l.Nodup →
      (l.flatMap fun p => [c].filter fun c => decide (c.pattern = p)) = if c.pattern ∈ l then [c] else [] := by
    intro l
    induction l with
    | nil => simp
    | cons a l ih =>
      intro hn
      rw [List.flatMap_cons, ih (List.nodup_cons.1 hn).2]
      by_cases ha : c.pattern = a
      · have : c.pattern ∉ l := ha ▸ (List.nodup_cons.1 hn).1
        simp [ha, ha ▸ this]
      · simp [ha]
  rw [h _ (List.nodup_finRange 32), if_pos (List.mem_finRange _)]

theorem mem_inIndexOrder {cs : List Completion} {c : Completion} : c ∈ inIndexOrder cs ↔ c ∈ cs := by
  unfold inIndexOrder
  simp only [List.mem_flatMap, List.mem_finRange, true_and, List.mem_filter, decide_eq_true_eq]
  exact ⟨fun ⟨_, h, _⟩ => h, fun h => ⟨_, h, rfl⟩⟩

/-- One completion changes the entry of its own pattern alone (R38). -/
theorem State.complete_patterns (src : SourceId) (s : State) (c : Completion) (p : PatternId) :
    (State.complete src s c).patterns.get p =
      if c.pattern = p then (s.patterns.get p).map fun e =>
        { e with hits := countUp e.hits, phase := if e.definition.oneShot = true then .spent else e.phase }
      else s.patterns.get p := by
  unfold State.complete
  cases h : s.patterns.get c.pattern with
  | none =>
    by_cases hp : c.pattern = p
    · subst hp; simp [h]
    · simp [hp]
  | some e =>
    have key : ∀ u : State, (if e.definition.oneShot = true then u.releaseTrackers fun t => decide (t.pattern = c.pattern)
        else u).patterns = u.patterns := by
      intro u; split <;> rfl
    dsimp only
    rw [key]
    have key2 : ∀ (u : State) (b : RecordBody), (u.offerIf e.definition.report b).patterns = u.patterns := by
      intro u b; simp
    dsimp only
    rw [key2, Table.get_set]
    by_cases hp : c.pattern = p
    · subst hp; simp [h]
    · simp [hp]

/-- Completions of different patterns stay so in pattern index order. -/
theorem inIndexOrder_nodup {cs : List Completion} (h : (cs.map Completion.pattern).Nodup) :
    ((inIndexOrder cs).map Completion.pattern).Nodup := by
  unfold inIndexOrder
  rw [List.Nodup, List.pairwise_map]
  rw [List.pairwise_flatMap]
  refine ⟨?_, ?_⟩
  · intro p _
    have := List.pairwise_map.1 h
    exact this.filter _
  · refine List.Pairwise.imp ?_ (List.nodup_finRange 32)
    intro p q hpq c hc c' hc' e
    have h1 := (List.mem_filter.1 hc).2
    have h2 := (List.mem_filter.1 hc').2
    simp only [decide_eq_true_eq] at h1 h2
    exact hpq (by rw [← h1, ← h2, e])

/-- The entries after part 3: each completed pattern's once counted, the others as they were (R14, R41). -/
theorem foldl_complete_patterns (src : SourceId) (l : List Completion) (s : State) (p : PatternId)
    (hn : (l.map Completion.pattern).Nodup) :
    (l.foldl (State.complete src) s).patterns.get p =
      if ∃ c ∈ l, c.pattern = p then (s.patterns.get p).map fun e =>
        { e with hits := countUp e.hits, phase := if e.definition.oneShot = true then .spent else e.phase }
      else s.patterns.get p := by
  induction l generalizing s with
  | nil => simp
  | cons c l ih =>
    rw [List.map_cons, List.nodup_cons] at hn
    rw [List.foldl_cons, ih _ hn.2, State.complete_patterns]
    by_cases h1 : ∃ x ∈ l, x.pattern = p
    · have h2 : ∃ x ∈ c :: l, x.pattern = p := by obtain ⟨x, hx, e⟩ := h1; exact ⟨x, by simp [hx], e⟩
      have h3 : c.pattern ≠ p := by
        rintro rfl
        obtain ⟨x, hx, e⟩ := h1
        exact hn.1 (List.mem_map.2 ⟨x, hx, e⟩)
      simp only [h1, h2, h3, if_true, if_false]
    · by_cases h3 : c.pattern = p
      · have h2 : ∃ x ∈ c :: l, x.pattern = p := ⟨c, by simp, h3⟩
        simp only [h1, h2, h3, if_true, if_false]
      · have h2 : ¬∃ x ∈ c :: l, x.pattern = p := by
          rintro ⟨x, hx, e⟩
          rcases List.mem_cons.1 hx with rfl | hx
          · exact h3 e
          · exact h1 ⟨x, hx, e⟩
        simp only [h1, h2, h3, if_false]

end Sys2Proof.Machine
end

