-- ==== Sys2Proof/Laws/Operands.lean ====
section
/-! SUPPORT. Laws/Operands.lean: the fields of a payload, once read, are the bytes they were read from. -/
namespace Sys2Proof.Machine

/-- A list of pairs that was read is the bytes it was read from. -/
theorem pairs?_spec (n : Nat) : ∀ (bs : List Byte) (ps), pairs? n bs = some ps →
    ps.length = n ∧ bs = ps.flatMap fun p => [p.1, p.2] := by
  induction n with
  | zero => intro bs ps h; cases bs <;> simp_all [pairs?]
  | succ n ih =>
    intro bs ps h
    match bs with
    | [] => simp [pairs?] at h
    | [a] => simp [pairs?] at h
    | a :: b :: rest =>
      simp [pairs?] at h
      obtain ⟨qs, h1, rfl⟩ := h
      obtain ⟨h2, h3⟩ := ih _ _ h1
      subst h3; simp [h2]

/-- A half as a number is written as the half. -/
theorem nat2_toNat (h : Half) : nat2 h.toNat = bytes2 h := by simp [nat2]

/-- A word as a number is written as the word. -/
theorem nat4_toNat (h : Word) : nat4 h.toNat = bytes4 h := by simp [nat4]

/-- Four bytes joined and split again are the four bytes. -/
theorem bytes4_join4 (a b c d : Byte) : bytes4 (join4 a b c d) = [a, b, c, d] := by
  simp only [bytes4, join4]
  refine List.cons_eq_cons.2 ⟨?_, List.cons_eq_cons.2 ⟨?_, List.cons_eq_cons.2 ⟨?_, List.cons_eq_cons.2 ⟨?_, rfl⟩⟩⟩⟩ <;>
  (apply BitVec.eq_of_getLsbD_eq; intro i hi; simp only [BitVec.getLsbD_extractLsb', BitVec.getLsbD_append]
   have e1 : (decide (i < 8)) = true := by simpa using hi
   rw [e1]; simp only [Bool.true_and]
   (repeat' split) <;> first | omega | (congr 1; omega))

/-- A yes or no that was read is the byte it was read from. -/
theorem yesNo?_back {b : Byte} {c : Bool} (h : yesNo? b = some c) : yesNo c = b := by
  unfold yesNo? at h; split at h
  · cases h; simp_all [yesNo]
  · split at h
    · cases h; simp_all [yesNo]
    · cases h

/-- The bytes that read as yes or no. -/
theorem yesNo?_iff (b : Byte) : (b = 0 ∨ b = 1) ↔ ∃ c, yesNo? b = some c := by
  constructor
  · rintro (rfl | rfl) <;> exact ⟨_, rfl⟩
  · rintro ⟨c, h⟩; have := yesNo?_back h; cases c <;> simp_all [yesNo]

/-- The bytes that name no output beyond W3. -/
theorem outputSet?_iff (b : Byte) : (∀ k : Nat, 4 ≤ k → b.getLsbD k = false) ↔ ∃ r, outputSet? b = some r := by
  constructor
  · intro h
    refine ⟨b.setWidth 4, ?_⟩
    unfold outputSet?; rw [if_pos]
    apply BitVec.eq_of_getLsbD_eq; intro i hi
    have h4 := h 4 (by omega); have h5 := h 5 (by omega); have h6 := h 6 (by omega); have h7 := h 7 (by omega)
    have : i = 0 ∨ i = 1 ∨ i = 2 ∨ i = 3 ∨ i = 4 ∨ i = 5 ∨ i = 6 ∨ i = 7 := by omega
    rcases this with rfl|rfl|rfl|rfl|rfl|rfl|rfl|rfl <;> simp only [BitVec.getLsbD_and, h4, h5, h6, h7, Bool.false_and] <;> simp
  · rintro ⟨r, h⟩ k hk
    unfold outputSet? at h; split at h
    · rename_i hb
      by_cases h8 : k < 8
      · have := congrArg (fun x => x.getLsbD k) hb
        have hk' : k = 4 ∨ k = 5 ∨ k = 6 ∨ k = 7 := by omega
        rcases hk' with rfl|rfl|rfl|rfl <;> simpa using this
      · exact BitVec.getLsbD_of_ge _ _ (by omega)
    · cases h

/-- A set of outputs that was read is the byte it was read from. -/
theorem outputSet?_back {b : Byte} {r} (h : outputSet? b = some r) : r.setWidth 8 = b := by
  have hb := (outputSet?_iff b).2 ⟨r, h⟩
  unfold outputSet? at h; split at h
  · cases h
    apply BitVec.eq_of_getLsbD_eq; intro i hi
    by_cases h4 : i < 4
    · simp [hi, h4]
    · rw [hb i (by omega)]; simp [h4]
  · cases h

/-- A set of sources that was read is the byte it was read from. -/
theorem sourceSet?_back {b : Byte} {r} (h : sourceSet? b = some r) : r.setWidth 8 = b := by
  unfold sourceSet? at h; split at h
  · cases h
  · cases h
    apply BitVec.eq_of_getLsbD_eq; intro i hi
    by_cases h4 : i < 7
    · simp [hi, h4]
    · have : i = 7 := by omega
      subst this; simp_all

/-- The empty set of sources is the byte 0. -/
theorem sourceSet?_zero {b : Byte} {r} (h : sourceSet? b = some r) : r = 0 ↔ b = 0 := by
  constructor
  · rintro rfl; rw [← sourceSet?_back h]; rfl
  · rintro rfl; simp [sourceSet?] at h; exact h.symm

/-- A DEFINE_PATTERN payload of right length is its fields in their order (section 11.4), with 1 to 12 steps. -/
theorem RawDefinition.parse_spec {payload : List Byte} {raw} (h : RawDefinition.parse payload = some raw) :
    payload = raw.index :: (bytes2 raw.label ++ [raw.sources] ++ bytes2 raw.gapLimit ++
      (raw.spanFlag :: (match raw.span with | some w => bytes4 w | none => [])) ++ [raw.policy] ++ bytes2 raw.holdoff ++
      [raw.condition, raw.consume, raw.oneShot, raw.report, raw.capture, raw.route] ++
      (raw.skipFlag :: (match raw.skip with | some p => [p.1, p.2] | none => [])) ++
      byteOf raw.steps.length :: raw.steps.flatMap fun p => [p.1, p.2]) ∧
    1 ≤ raw.steps.length ∧ raw.steps.length ≤ 12 ∧
    (raw.spanFlag = 0 ↔ raw.span = none) ∧ (raw.skipFlag = 0 ↔ raw.skip = none) := by
  unfold RawDefinition.parse at h
  split at h
  · rename_i index l1 l0 sources g1 g0 spanFlag rest
    split at h
    · rename_i span policy h1 h0 condition consume oneShot report capture route skipFlag rest2 hsp
      split at h
      · rename_i skip rest3 hsk
        split at h
        · rename_i steps hst
          cases h
          simp only
          unfold stepsField? at hst
          split at hst
          · rename_i n rest4
            split at hst
            · rename_i hn
              obtain ⟨hl, hr⟩ := pairs?_spec _ _ _ hst
              refine ⟨?_, by omega, by omega, ?_, ?_⟩
              · have hbn : byteOf steps.length = n := by rw [hl]; simp [byteOf]
                rw [hbn, ← hr]
                unfold spanField? at hsp; unfold skipField? at hsk
                split at hsp <;> split at hsk
                all_goals (try split at hsp) <;> (try split at hsk)
                all_goals simp only [Option.some.injEq, Prod.mk.injEq, reduceCtorEq] at hsp hsk
                all_goals (obtain ⟨rfl, h5⟩ := hsp; obtain ⟨rfl, h6⟩ := hsk; subst h5; subst h6; simp_all [bytes2_join2, bytes4_join4])
              · unfold spanField? at hsp
                split at hsp
                · cases hsp; simp_all
                · split at hsp <;> cases hsp; simp_all
              · unfold skipField? at hsk
                split at hsk
                · cases hsk; simp_all
                · split at hsk <;> cases hsk; simp_all
            · cases hst
          · cases hst
        · cases h
      · cases h
    · cases h
  · cases h

end Sys2Proof.Machine
end

