-- ==== Sys2Proof/Laws/PerInstr.lean ====
section
/-! SUPPORT. Laws/PerInstr.lean: one property of every command, as syntax: the frame that a well-formed command stands for is
one that the link can carry (R143). -/
namespace Sys2Proof.Laws.FrameFits

open Sys2Proof.Machine

/-- The frame of a well-formed command is SYNC, a LEN that is the true count of the bytes from SEQ to the end of PAYLOAD, those
bytes and the two of CHECK: 6 to 254 bytes. -/
def Statement (i : Instr) : Prop :=
  i.wellFormed = true → ∀ q k p, i.frame? = some (q, k, p) →
    (lenByte p).toNat = p.length + 2 ∧ (frameBytes q k p).length = p.length + 6 ∧ p.length ≤ 248

/-- A payload that fits makes a frame that fits. -/
theorem of_fits {q k : Byte} {p : List Byte} (h : payloadFits p = true) :
    (lenByte p).toNat = p.length + 2 ∧ (frameBytes q k p).length = p.length + 6 ∧ p.length ≤ 248 := by
  have hp : p.length ≤ 248 := by simpa [payloadFits] using h
  exact ⟨byteOf_toNat (by omega), by simp [frameBytes], hp⟩

theorem identify (seq : Byte) (payload : List Byte) : Statement (.identify seq payload) := by
  intro h q k p e
  cases e
  exact of_fits h

theorem readStatus (seq : Byte) (payload : List Byte) : Statement (.readStatus seq payload) := by
  intro h q k p e
  cases e
  exact of_fits h

theorem openSession (seq : Byte) (payload : List Byte) : Statement (.openSession seq payload) := by
  intro h q k p e
  cases e
  exact of_fits h

theorem closeSession (seq : Byte) (payload : List Byte) : Statement (.closeSession seq payload) := by
  intro h q k p e
  cases e
  exact of_fits h

theorem holdNotices (seq : Byte) (payload : List Byte) : Statement (.holdNotices seq payload) := by
  intro h q k p e
  cases e
  exact of_fits h

theorem releaseNotices (seq : Byte) (payload : List Byte) : Statement (.releaseNotices seq payload) := by
  intro h q k p e
  cases e
  exact of_fits h

theorem ackEvents (seq : Byte) (payload : List Byte) : Statement (.ackEvents seq payload) := by
  intro h q k p e
  cases e
  exact of_fits h

theorem setClock (seq : Byte) (payload : List Byte) : Statement (.setClock seq payload) := by
  intro h q k p e
  cases e
  exact of_fits h

theorem restart (seq : Byte) (payload : List Byte) : Statement (.restart seq payload) := by
  intro h q k p e
  cases e
  exact of_fits h

theorem setSource (seq : Byte) (payload : List Byte) : Statement (.setSource seq payload) := by
  intro h q k p e
  cases e
  exact of_fits h

theorem readSource (seq : Byte) (payload : List Byte) : Statement (.readSource seq payload) := by
  intro h q k p e
  cases e
  exact of_fits h

theorem inject (seq : Byte) (payload : List Byte) : Statement (.inject seq payload) := by
  intro h q k p e
  cases e
  exact of_fits h

theorem cancelInject (seq : Byte) (payload : List Byte) : Statement (.cancelInject seq payload) := by
  intro h q k p e
  cases e
  exact of_fits h

theorem setContact (seq : Byte) (payload : List Byte) : Statement (.setContact seq payload) := by
  intro h q k p e
  cases e
  exact of_fits h

theorem readContacts (seq : Byte) (payload : List Byte) : Statement (.readContacts seq payload) := by
  intro h q k p e
  cases e
  exact of_fits h

theorem definePattern (seq : Byte) (payload : List Byte) : Statement (.definePattern seq payload) := by
  intro h q k p e
  cases e
  exact of_fits h

theorem armPattern (seq : Byte) (payload : List Byte) : Statement (.armPattern seq payload) := by
  intro h q k p e
  cases e
  exact of_fits h

theorem stopPattern (seq : Byte) (payload : List Byte) : Statement (.stopPattern seq payload) := by
  intro h q k p e
  cases e
  exact of_fits h

theorem erasePattern (seq : Byte) (payload : List Byte) : Statement (.erasePattern seq payload) := by
  intro h q k p e
  cases e
  exact of_fits h

theorem readPattern (seq : Byte) (payload : List Byte) : Statement (.readPattern seq payload) := by
  intro h q k p e
  cases e
  exact of_fits h

theorem readTrackers (seq : Byte) (payload : List Byte) : Statement (.readTrackers seq payload) := by
  intro h q k p e
  cases e
  exact of_fits h

theorem flushTrackers (seq : Byte) (payload : List Byte) : Statement (.flushTrackers seq payload) := by
  intro h q k p e
  cases e
  exact of_fits h

theorem setWake (seq : Byte) (payload : List Byte) : Statement (.setWake seq payload) := by
  intro h q k p e
  cases e
  exact of_fits h

theorem clearWake (seq : Byte) (payload : List Byte) : Statement (.clearWake seq payload) := by
  intro h q k p e
  cases e
  exact of_fits h

theorem readWake (seq : Byte) (payload : List Byte) : Statement (.readWake seq payload) := by
  intro h q k p e
  cases e
  exact of_fits h

theorem unknownRequest (seq kind : Byte) (payload : List Byte) : Statement (.unknownRequest seq kind payload) := by
  intro h q k p e
  cases e
  exact of_fits (by simp only [Instr.wellFormed, Bool.and_eq_true] at h; exact h.1)

theorem frameSetAside (seq kind : Byte) (payload : List Byte) : Statement (.frameSetAside seq kind payload) := by
  intro h q k p e
  cases e
  exact of_fits h

theorem linkByte (a : Byte) : Statement (.linkByte a) := by
  intro _ q k p e
  cases e

theorem linkFramingFault : Statement (.linkFramingFault) := by
  intro _ q k p e
  cases e

theorem interByteTimeout : Statement (.interByteTimeout) := by
  intro _ q k p e
  cases e

theorem linkReset : Statement (.linkReset) := by
  intro _ q k p e
  cases e

theorem transmitFrameEnd : Statement (.transmitFrameEnd) := by
  intro _ q k p e
  cases e

theorem retransmitExpiry : Statement (.retransmitExpiry) := by
  intro _ q k p e
  cases e

theorem serialCharacter (a : SerialId) (b : Byte) (c d : Level) : Statement (.serialCharacter a b c d) := by
  intro _ q k p e
  cases e

theorem settleExpiry (a : SourceId) : Statement (.settleExpiry a) := by
  intro _ q k p e
  cases e

theorem contactPinChange (a : ContactId) (b : Level) : Statement (.contactPinChange a b) := by
  intro _ q k p e
  cases e

theorem debounceExpiry (a : ContactId) : Statement (.debounceExpiry a) := by
  intro _ q k p e
  cases e

theorem injectDelivery (a : SourceId) : Statement (.injectDelivery a) := by
  intro _ q k p e
  cases e

theorem latchRequest (a : OutputId) : Statement (.latchRequest a) := by
  intro _ q k p e
  cases e

theorem pulseExpiry (a : OutputId) : Statement (.pulseExpiry a) := by
  intro _ q k p e
  cases e

theorem gapDeadlineExpiry (a : TrackerId) : Statement (.gapDeadlineExpiry a) := by
  intro _ q k p e
  cases e

theorem spanDeadlineExpiry (a : TrackerId) : Statement (.spanDeadlineExpiry a) := by
  intro _ q k p e
  cases e

theorem holdoffExpiry (a : PatternId) (b : SourceId) : Statement (.holdoffExpiry a b) := by
  intro _ q k p e
  cases e

theorem hostpwrChange (a : Level) : Statement (.hostpwrChange a) := by
  intro _ q k p e
  cases e

theorem qualifiedPowerChange : Statement (.qualifiedPowerChange) := by
  intro _ q k p e
  cases e

theorem clockTick : Statement (.clockTick) := by
  intro _ q k p e
  cases e

theorem resetAssert : Statement (.resetAssert) := by
  intro _ q k p e
  cases e

theorem powerOnSequence (a b : Level) : Statement (.powerOnSequence a b) := by
  intro _ q k p e
  cases e

theorem hrxLevelChange (a : Level) (b : Bool) : Statement (.hrxLevelChange a b) := by
  intro _ q k p e
  cases e

theorem sourceLineLevelChange (a : SerialId) (b : Level) (c : Bool) : Statement (.sourceLineLevelChange a b c) := by
  intro _ q k p e
  cases e

end Sys2Proof.Laws.FrameFits
end

