-- ==== Sys2Proof/Tests/Slice0.lean ====
section
/-! SUPPORT. Tests/Slice0.lean: the well-formedness smoke tests; tests of one step each, whose expected results are the manual's
own worked examples or are read from the rule named; and for every statement with hypotheses a state that meets them. -/
namespace Sys2Proof.Tests

set_option Elab.async false

open Sys2Proof.Machine

/-! ### Small states -/

/-- Host power PRESENT, session 1 just opened with window 8 and timeout 5000, the event queue empty. -/
def ready : State :=
  { State.reset with
    queue := { records := [], nextNumber := 2, lost := 0 }
    power := { qualified := .present, timer := none }
    pins := { restingPins with hostpwr := .high }
    link := { State.reset.link with byteReceiver := .hunting }
    session := { number := 1, opened := some (freshSession 8 5000), lastClose := .none } }

/-- Host power PRESENT and no session. -/
def closed : State := { ready with session := resetSession }

/-- `ready` with this frame receiver, byte receiver and break timer. -/
def hearing (r : FrameReceiver) (b : ByteReceiver) (t : Timer) : State :=
  { ready with link := { ready.link with receiver := r, byteReceiver := b, breakTimer := t } }

/-- A reply that carries a status alone. -/
def plainReply (seq kind status : Byte) : Reply := { seq := seq, kind := kind, payload := [status], restart := false }

/-- `s` with this many replies waiting behind a first one that is being sent. -/
def replying (s : State) (n : Nat) : State :=
  { s with link := { s.link with
    replies := List.replicate n (plainReply 9 0x02 0)
    transmitter := if n = 0 then .idle else .sendingReply (plainReply 9 0x02 0).frame } }

/-- `s` with source `src` in the state `st`, enable yes, in this mode, reporting yes, with these times. -/
def sourced (s : State) (src : SourceId) (st : SourceState) (mode : SourceMode) (settle spacing : Nat) : State :=
  { s with
    sources := s.sources.set src
      { config := { enable := true, mode := mode, settleTime := settle, reporting := true, spacing := spacing }
        state := st
        received := 0 } }

/-- `s` with serial source `i` holding these line fields and receiver. -/
def lined (s : State) (i : SerialId) (bits : DataBits) (p : Parity) (d : Domain) (r : Receiver) : State :=
  { s with
    serials := s.serials.set i
      { line := { rate := .r9600, dataBits := bits, parity := p, domain := d }, errors := 0, errorFlag := false, receiver := r } }

/-- Source S2 LISTENING and hunting, 8 data bits, no parity. -/
def listening (s : State) : State := lined (sourced s 2 .listening .live 0 100) 2 .eight .none .standby .hunting

/-- The keypad code of section 2.7. -/
def keypad : Definition :=
  { label := 40
    sources := 4
    steps := [⟨0x32, 0xFF⟩, ⟨0x35, 0xFF⟩, ⟨0x38, 0xFF⟩, ⟨0x30, 0xFF⟩]
    skip := some ⟨0x80, 0x80⟩
    gapLimit := 3000
    spanLimit := some 10000
    policy := .holdoff 5000
    condition := .hostOff
    consume := true
    oneShot := false
    report := true
    capture := false
    route := 1 }

/-- The service-port pattern of section 1.6. -/
def servicePort : Definition :=
  { label := 261
    sources := 8
    steps := [⟨0x53, 0xDF⟩, ⟨0x56, 0xDF⟩, ⟨0x43, 0xDF⟩, ⟨0x0D, 0xFF⟩]
    skip := some ⟨0x0A, 0xFF⟩
    gapLimit := 2000
    spanLimit := some 8000
    policy := .restart
    condition := .hostOn
    consume := true
    oneShot := false
    report := true
    capture := true
    route := 0 }

/-- A one-shot pattern of the single step `v` on every source, with report, capture and consume yes and every output in
its route. -/
def single (v : Byte) : Definition :=
  { keypad with
    sources := 0x7F
    steps := [⟨v, 0xFF⟩]
    skip := none
    condition := .always
    oneShot := true
    capture := true
    route := 0xF }

/-- `s` with a definition in an entry. -/
def withEntry (s : State) (p : PatternId) (d : Definition) (phase : Phase) (hits : Half) : State :=
  { s with patterns := s.patterns.set p (some { phase := phase, definition := d, hits := hits }) }

/-- Host power ABSENT, S2 LISTENING, the keypad code ARMED in entry 3. -/
def door : State := withEntry (listening State.reset) 3 keypad .armed 0

/-- A tracker of the keypad code on S2. -/
def half (next gap : Nat) (span : Option Nat) : Tracker :=
  { pattern := 3, source := 2, next := next, gap := gap, span := span, start := 8000, captured := none }

/-- `s` with a tracker in use. -/
def withTracker (s : State) (i : TrackerId) (t : Tracker) : State := { s with trackers := s.trackers.set i (some t) }

/-- `s` with a running holdoff. -/
def withHoldoff (s : State) (p : PatternId) (src : SourceId) (t : Nat) : State :=
  { s with holdoffs := setHoldoff s.holdoffs p src (some t) }

/-- `s` with an injection queue. -/
def injecting (s : State) (src : SourceId) (q : List Symbol) (t : Timer) (delivered : Half) : State :=
  { s with injectors := s.injectors.set src { queue := q, delivered := delivered, cancelled := 0, timer := t } }

/-- A record of the number given. -/
def record (n : Half) (m : Mark) (b : RecordBody) : Record := { number := n, timestamp := 7, mark := m, body := b }

/-- `s` with these records and lost count, the last record's number being one less than the next. -/
def queued (s : State) (rs : List Record) (next lost : Half) : State :=
  { s with queue := { records := rs, nextNumber := next, lost := lost } }

/-- `s` with this much of its session changed. -/
def inSession (s : State) (f : OpenSession → OpenSession) : State :=
  { s with session := { s.session with opened := s.session.opened.map f } }

/-- Contact 3 as in section 4.7: ACTIVE_LOW, BOTH, with this debounce time, stable level and timer; SC LISTENING. -/
def lid (s : State) (debounce : Nat) (stable : Level) (t : Timer) (pin : Level) : State :=
  let s' := sourced s 6 .listening .live 50 100
  { s' with
    contacts := s'.contacts.set 3
      { config := { polarity := .activeLow, debounce := debounce, selection := .both }, stable := stable, timer := t }
    pins := { s'.pins with contacts := s'.pins.contacts.set 3 pin } }

/-- W0 as in section 7.6: enabled, PULSE, ACTIVE_LOW, 40 ms, HOST_OFF_ONLY, auto-clear yes. -/
def pulseConfig : WakeConfig :=
  { enable := true, mode := .pulse, polarity := .activeLow, width := 40, gate := .hostOffOnly, autoClear := true }

/-- `s` with an output so configured. -/
def waking (s : State) (w : OutputId) (latch : Bool) (pulse : Timer) : State :=
  { s with wakes := s.wakes.set w { config := pulseConfig, latch := latch, pulse := pulse } }

/-- HOSTPWR at a level, with the qualification timer. -/
def supplied (s : State) (l : Level) (t : Timer) : State :=
  { s with pins := { s.pins with hostpwr := l }, power := { s.power with timer := t } }

/-- Whether an outcome is a next state of which `p` holds. -/
def gives (o : Host.Outcome State Fault Refusal) (p : State → Bool) : Bool :=
  match o with
  | .next t => p t
  | .fault _ => false
  | .refused _ => false

/-- The reason of a refusal. -/
def refusal (o : Host.Outcome State Fault Refusal) : Option Refusal :=
  match o with
  | .next _ => none
  | .fault _ => none
  | .refused r => some r

/-- The payload of the newest reply. -/
def newest (t : State) : List Byte :=
  match t.link.replies.getLast? with
  | some r => r.payload
  | none => []

/-- The record at the tail of the queue. -/
def tail (t : State) : Option RecordBody := t.queue.records.getLast?.map Record.body

/-! ### WellFormed, one ill-formed command for each check -/

theorem test_wellFormed_refuses_payload_of_249 : (Instr.identify 1 (List.replicate 249 0)).wellFormed = false := by decide +kernel
theorem test_wellFormed_refuses_unknown_payload_of_249 :
    (Instr.unknownRequest 1 0x7F (List.replicate 249 0)).wellFormed = false := by decide +kernel
theorem test_wellFormed_refuses_known_kind : (Instr.unknownRequest 1 0x24 []).wellFormed = false := by decide +kernel
theorem test_wellFormed_admits_payload_of_248 : (Instr.frameSetAside 1 0x24 (List.replicate 248 0)).wellFormed = true := by decide +kernel
theorem test_payload_of_249_is_no_frame :
    refusal (exec (.frameSetAside 1 2 (List.replicate 249 0)) ready) = some .notAFrame := by decide +kernel
theorem test_no_word_spells_a_command : decodeTableWord 8 1 = none := by decide +kernel

/-! ### Frames: sections 8.2 and 11.5 -/

theorem test_identify_frame : frameBytes 5 0x01 [] = [0xA7, 0x02, 0x05, 0x01, 0x4D, 0x28] := by decide +kernel
theorem test_read_status_frame : frameBytes 6 0x02 [] = [0xA7, 0x02, 0x06, 0x02, 0x28, 0x18] := by decide +kernel
theorem test_hit_notice_payload :
    (Record.bytes { number := 300, timestamp := 9900, mark := .waiting, body := .hit 3 40 2 4 8000 none }) =
      [0x01, 0x2C, 0x02, 0x00, 0x00, 0x26, 0xAC, 0x03, 0x00, 0x28, 0x02, 0x04, 0x00, 0x00, 0x1F, 0x40, 0x00] := by decide +kernel
theorem test_hit_notice_head :
    (Record.notice { number := 300, timestamp := 9900, mark := .waiting, body := .hit 3 40 2 4 8000 none }).take 4 =
      [0xA7, 0x13, 0x00, 0x80] := by decide +kernel

/-! ### One step of each command -/

/-- Section 11.2 and R177. -/
theorem test_identify : gives (exec (.identify 5 []) ready) (fun t => decide (newest t =
    [0x00, 0x03, 0xA1, 0x07, 0x16, 0x42, 32, 12, 24, 64, 7, 8, 4, 32, 8])) = true := by decide +kernel
/-- R178: session OPEN, number 1, FLOWING, last close NONE; one WAITING record. -/
theorem test_readStatus : gives (exec (.readStatus 5 []) (replying (queued ready [record 1 .waiting (.power .present)] 2 0) 1))
    (fun t => decide ((newest t).take 13 = [0x00, 1, 1, 1, 0, 0, 1, 0, 1, 0, 0, 0, 0])) = true := by decide +kernel
/-- R159, section 9.8: window 3, timeout 200; previous reason REQUESTED; five records. -/
theorem test_openSession : gives (exec (.openSession 0x11 [3, 0, 200])
    (queued { closed with session := { number := 6, opened := none, lastClose := .requested } }
      (List.replicate 5 (record 40 .waiting (.power .present))) 45 0))
    (fun t => decide (newest t = [0x00, 7, 3, 0, 200, 0x01, 5])) = true := by decide +kernel
/-- R158: window 9 is out of range. -/
theorem test_openSession_window_nine : gives (exec (.openSession 1 [9, 0, 200]) closed) (fun t => decide (newest t = [0x03])) = true := by decide +kernel
/-- R160: one record was SENT. -/
theorem test_closeSession : gives (exec (.closeSession 2 []) (queued ready [record 1 .sent (.power .present)] 2 0))
    (fun t => decide (newest t = [0x00, 1] ∧ t.session.opened = none ∧ t.session.lastClose = .requested)) = true := by decide +kernel
theorem test_holdNotices : gives (exec (.holdNotices 2 []) ready)
    (fun t => decide (newest t = [0x00, 0] ∧ t.session.opened.map OpenSession.flow = some .held)) = true := by decide +kernel
theorem test_releaseNotices : gives (exec (.releaseNotices 2 []) (inSession ready fun o => { o with flow := .held }))
    (fun t => decide (newest t = [0x00, 1] ∧ t.session.opened.map OpenSession.flow = some .flowing)) = true := by decide +kernel
/-- Section 6.8, step 4, in small: the acknowledgement of 103 appends LOST with the 4 lost. -/
theorem test_ackEvents : gives (exec (.ackEvents 2 [0, 103]) (replying (queued ready
      [record 102 .sent (.power .present), record 103 .sent (.lineError 0 .framing), record 104 .waiting (.power .absent)] 163 4) 1))
    (fun t => decide (newest t = [0x00, 2, 2, 1, 0, 163] ∧ tail t = some (.lost 4) ∧ t.queue.lost = 0 ∧
      t.queue.nextNumber = 164)) = true := by decide +kernel
/-- R113: a record that is not SENT is not acknowledged. -/
theorem test_ackEvents_waiting : gives (exec (.ackEvents 2 [0, 104]) (replying (queued ready
      [record 104 .waiting (.power .absent)] 105 0) 1))
    (fun t => decide (newest t = [0x08] ∧ t.queue.records.length = 1)) = true := by decide +kernel
theorem test_setClock : gives (exec (.setClock 2 [0x12, 0x34, 0x56, 0x78]) { ready with clock := 0x01020304 })
    (fun t => decide (newest t = [0x00, 1, 2, 3, 4] ∧ t.clock = 0x12345678)) = true := by decide +kernel
theorem test_restart : gives (exec (.restart 0x21 []) ready)
    (fun t => decide (t.link.replies = [{ seq := 0x21, kind := 0x09, payload := [0x00], restart := true }])) = true := by decide +kernel
/-- Section 3.7: at 2000 S1 is set up for the card reader and is SETTLING with 300 ms to go. -/
theorem test_setSource : gives (exec (.setSource 2 [1, 1, 0, 0x04, 8, 0x02, 0x02, 0x01, 0x2C, 1, 0, 100]) ready)
    (fun t => decide (newest t = [0x00, 0x00, 0x01, 0, 0, 0, 0, 0, 0] ∧ (t.sources.get 1).state = .settling 300 ∧
      (t.serials.get 1).receiver = .hunting)) = true := by decide +kernel
/-- Section 5.8: a disable takes SC from TEST to OFF and ends the run with delivered 2, cancelled 3. -/
theorem test_setSource_disable : gives (exec (.setSource 2 [6, 0, 0, 0, 0, 0, 0, 0, 50, 1, 0, 100])
    (replying (injecting (sourced ready 6 .test .test 50 0) 6 [.value 3, .value 19, .value 1] (some 0) 2) 1))
    (fun t => decide ((newest t).take 3 = [0x00, 0x03, 0x00] ∧ tail t = some (.injectDone 6 2 3 .sourceOff))) = true := by decide +kernel
/-- R72: the eleven configuration bytes, LISTENING, not waiting for power, no settle time, and the counts. -/
theorem test_readSource : gives (exec (.readSource 2 [2]) (listening ready)) (fun t => decide (newest t =
    [0x00, 1, 0, 0x04, 8, 0x01, 0x01, 0, 0, 1, 0, 100, 0x02, 0, 0, 0, 0, 0, 0, 0, 0, 0, 0, 0])) = true := by decide +kernel
/-- Section 5.7, at 5000. -/
theorem test_inject : gives (exec (.inject 2 [2, 4, 0, 0x32, 0, 0xB2, 0, 0x35, 0, 0xB5])
    (lined (sourced ready 2 .test .test 0 200) 2 .eight .none .standby .stopped))
    (fun t => decide (newest t = [0x00, 4, 0, 0] ∧ (t.injectors.get 2).timer = some 200)) = true := by decide +kernel
/-- R90: SC is given no error entry. -/
theorem test_inject_error_at_SC : gives (exec (.inject 2 [6, 1, 1, 0x01]) (sourced ready 6 .test .test 0 200))
    (fun t => decide (newest t = [0x03])) = true := by decide +kernel
/-- Section 5.7, at 7300. -/
theorem test_cancelInject : gives (exec (.cancelInject 2 [2])
    (replying (injecting (sourced ready 2 .test .test 0 200) 2 [.error .framing, .value 0x35] (some 100) 1) 1))
    (fun t => decide (newest t = [0x00, 0, 1, 0, 2] ∧ tail t = some (.injectDone 2 1 2 .cancelled))) = true := by decide +kernel
/-- Section 4.7: SET_CONTACT at 115 restarts the running timer at 50 ms. -/
theorem test_setContact : gives (exec (.setContact 2 [3, 0, 50, 3]) (lid ready 20 .high (some 10) .low))
    (fun t => decide (newest t = [0x00, 0, 20, 3, 1, 0] ∧ (t.contacts.get 3).timer = some 50)) = true := by decide +kernel
/-- Section 4.7: with debounce time 0 the press is taken as part of the request. -/
theorem test_setContact_at_once : gives (exec (.setContact 2 [3, 0, 0, 3]) (lid ready 20 .high (some 10) .low))
    (fun t => decide (newest t = [0x00, 0, 20, 3, 0, 1] ∧ (t.sources.get 6).received = 1)) = true := by decide +kernel
theorem test_readContacts : gives (exec (.readContacts 2 []) (lid ready 20 .high (some 10) .low))
    (fun t => decide ((newest t).length = 59 ∧ (newest t).drop 23 =
      [0, 20, 3, 0, 1, 0, 1, 10, 0, 20, 1, 1, 1, 0, 0, 0, 20, 1, 1, 1, 0, 0, 0, 20, 1, 1, 1, 0, 0, 0, 20, 1, 1, 1, 0, 0])) =
      true := by decide +kernel
/-- Section 1.6: entry 5 was EMPTY. -/
theorem test_definePattern : gives (exec (.definePattern 2 (5 :: servicePort.bytes)) ready)
    (fun t => decide (newest t = [0x00, 0x00, 0, 0] ∧
      t.patterns.get 5 = some { phase := .stopped, definition := servicePort, hits := 0 })) = true := by decide +kernel
/-- Section 1.6: the request's bytes, laid out by section 11.4. -/
theorem test_definePattern_bytes : servicePort.bytes =
    [0x01, 0x05, 0x08, 0x07, 0xD0, 1, 0x00, 0x00, 0x1F, 0x40, 0x00, 0, 0, 0x01, 1, 0, 1, 1, 0x00, 1, 0x0A, 0xFF, 4,
     0x53, 0xDF, 0x56, 0xDF, 0x43, 0xDF, 0x0D, 0xFF] := by decide +kernel
/-- Section 1.7: ARMED again from SPENT, hit count kept. -/
theorem test_armPattern : gives (exec (.armPattern 2 [9]) (withEntry ready 9 (single 7) .spent 1))
    (fun t => decide (newest t = [0x00, 0x03] ∧ (t.patterns.get 9).map Entry.phase = some .armed)) = true := by decide +kernel
theorem test_stopPattern : gives (exec (.stopPattern 2 [9]) (withEntry ready 9 (single 7) .armed 1))
    (fun t => decide (newest t = [0x00, 0x02] ∧ (t.patterns.get 9).map Entry.phase = some .stopped)) = true := by decide +kernel
/-- Section 1.7: the erased entry had been STOPPED with count 0. -/
theorem test_erasePattern : gives (exec (.erasePattern 2 [9]) (withEntry ready 9 (single 7) .stopped 0))
    (fun t => decide (newest t = [0x00, 0x01, 0, 0] ∧ t.patterns.get 9 = none)) = true := by decide +kernel
/-- Section 1.7: READ_PATTERN with clear-hits 1 reports count 1 and leaves 0. -/
theorem test_readPattern : gives (exec (.readPattern 2 [9, 1]) (withEntry ready 9 (single 7) .armed 1))
    (fun t => decide ((newest t).take 2 = [0x00, 0x02] ∧ (newest t).drop 25 = [0, 1, 1] ∧
      (t.patterns.get 9).map Entry.hits = some 0)) = true := by decide +kernel
/-- Section 2.7, at 8600: id 0, entry 3, S2, next 2, gap 3000, span 9400, start 8000, no capture. -/
theorem test_readTrackers : gives (exec (.readTrackers 2 [0]) (withTracker ready 0 (half 2 3000 (some 9400))))
    (fun t => decide (newest t = [0x00, 1, 1, 0, 3, 2, 2, 0x0B, 0xB8, 1, 0, 0, 0x24, 0xB8, 0, 0, 0x1F, 0x40, 0, 0])) = true := by decide +kernel
theorem test_flushTrackers : gives (exec (.flushTrackers 2 [0x04]) (withHoldoff (withTracker ready 0 (half 2 3000 none)) 9 2 500))
    (fun t => decide (newest t = [0x00, 1, 1] ∧ t.trackers.get 0 = none ∧ (t.holdoffs.get 9).get 2 = none)) = true := by decide +kernel
/-- R128: the old configuration, the latch and whether the output is asserted. -/
theorem test_setWake : gives (exec (.setWake 2 [1, 1, 0, 0, 10, 0, 0]) ready)
    (fun t => decide (newest t = [0x00, 0, 0, 0, 10, 0, 0, 0, 0] ∧ (t.wakes.get 1).config.enable = true)) = true := by decide +kernel
theorem test_clearWake : gives (exec (.clearWake 2 [0x02]) (waking (waking ready 1 true (some 5)) 0 true none))
    (fun t => decide (newest t = [0x00, 0x02, 0x01] ∧ (t.wakes.get 1).pulse = none)) = true := by decide +kernel
/-- R131: W0 latched with its gate closed, its ACTIVE_LOW pin HIGH; host power PRESENT, HOSTPWR HIGH, no timer. -/
theorem test_readWake : gives (exec (.readWake 2 []) (waking ready 0 true none))
    (fun t => decide ((newest t).take 12 = [0x00, 1, 1, 1, 40, 1, 1, 1, 0, 0, 0, 1] ∧ (newest t).drop 45 = [1, 1, 0])) = true := by decide +kernel
theorem test_unknownRequest : gives (exec (.unknownRequest 2 0x7F [1, 2]) ready) (fun t => decide (newest t = [0x01])) = true := by decide +kernel
theorem test_frameSetAside : gives (exec (.frameSetAside 2 0x01 []) (replying ready 4))
    (fun t => decide (t.link.errors = 1 ∧ t.link.replies.length = 4)) = true := by decide +kernel
/-- Section 8.8: the byte that completes the damaged frame. -/
theorem test_linkByte : gives (exec (.linkByte 0xA7) (hearing (.receiving (some 2) [0x01, 0x4D, 0x28] 20) .hunting none))
    (fun t => decide (t.link.errors = 1 ∧ t.link.receiver = .hunting ∧ t.link.replies = [])) = true := by decide +kernel
theorem test_linkFramingFault : gives (exec .linkFramingFault (hearing (.receiving (some 2) [0x01] 20) .taking (some 5)))
    (fun t => decide (t.link.errors = 1 ∧ t.link.receiver = .hunting ∧ t.link.byteReceiver = .waiting)) = true := by decide +kernel
/-- Section 8.8: the host waits. -/
theorem test_interByteTimeout : gives (exec .interByteTimeout (hearing (.receiving (some 2) [0x01, 0x4D, 0x28] 0) .hunting none))
    (fun t => decide (t.link.errors = 1 ∧ t.link.receiver = .hunting)) = true := by decide +kernel
theorem test_linkReset : gives (exec .linkReset (hearing .hunting .waiting (some 0)))
    (fun t => decide (t.session.opened = none ∧ t.session.lastClose = .linkReset)) = true := by decide +kernel
/-- R150: a request and a link reset that come together, in either order. The request taken first is executed (SET_CLOCK loads the
clock) and its reply is removed; taken after, it is not executed. -/
theorem test_linkReset_with_request :
    (∀ b ∈ [ByteReceiver.taking, .waiting],
      let s := { hearing .hunting b (some 0) with pins := { ready.pins with hrx := .low } }
      let set : Instr := .setClock 1 [0, 0, 0, 9]
      let gone (clock : Word) (t : State) : Bool :=
        decide (t.clock = clock ∧ t.link.replies = [] ∧ t.session.opened = none ∧ t.session.lastClose = .linkReset)
      gives (execAll [set, .linkReset] s) (gone 9) = true ∧ gives (execAll [.linkReset, set] s) (gone 0) = true) := by
  decide +kernel
/-- Section 10.5: the RESTART reply ends; record 0 is STARTED (RESTART), ATTN is asserted, qualification has begun. -/
theorem test_transmitFrameEnd : gives (exec .transmitFrameEnd { ready with link := { ready.link with
      replies := [{ seq := 0x21, kind := 0x09, payload := [0x00], restart := true }], transmitter := .sendingReply [] } })
    (fun t => decide (t.queue.records.map Record.body = [.started .restart] ∧ t.attn = .low ∧ t.power.timer = some 10)) = true := by decide +kernel
/-- Section 9.8, at 1201: round 1, and the first of the three notices handed over again. -/
theorem test_retransmitExpiry : gives (exec .retransmitExpiry (inSession (queued ready
      [record 40 .sent (.power .present), record 41 .sent (.power .absent)] 42 0)
      fun o => { o with timer := some 0, timeout := 200 }))
    (fun t => decide (t.session.opened.map (fun o => (o.round, o.resend, o.timer)) = some (1, [41], some 200))) = true := by decide +kernel
/-- Section 2.7, at 9900: the last digit completes entry 3. -/
theorem test_serialCharacter : gives (exec (.serialCharacter 2 0x30 .low .high)
      (withTracker { door with clock := 9900 } 0 (half 3 2400 (some 8100))))
    (fun t => decide (tail t = some (.hit 3 40 2 4 8000 none) ∧ (t.patterns.get 3).map Entry.hits = some 1 ∧
      t.latchRequests = [0] ∧ t.trackers.get 0 = none)) = true := by decide +kernel
/-- Section 2.7, at 2700: the wrong digit starts the holdoff. -/
theorem test_serialCharacter_wrong_digit : gives (exec (.serialCharacter 2 0x39 .low .high)
      (withTracker door 0 (half 2 2200 (some 8300))))
    (fun t => decide ((t.holdoffs.get 3).get 2 = some 5000 ∧ t.trackers.get 0 = none)) = true := by decide +kernel
theorem test_settleExpiry : gives (exec (.settleExpiry 6) (sourced State.reset 6 (.settling 0) .live 50 100))
    (fun t => decide (tail t = some (.sourceState 6 .listeningSettled) ∧ (t.sources.get 6).state = .listening)) = true := by decide +kernel
/-- Section 4.7, at 103: the bounce stops the timer. -/
theorem test_contactPinChange : gives (exec (.contactPinChange 3 .high) (lid State.reset 20 .high (some 17) .low))
    (fun t => decide ((t.contacts.get 3).timer = none ∧ (t.sources.get 6).received = 0)) = true := by decide +kernel
/-- Section 4.7, at 125: the press. -/
theorem test_debounceExpiry : gives (exec (.debounceExpiry 3) (withEntry (lid State.reset 20 .high (some 0) .low) 4 (single 3) .armed 0))
    (fun t => decide (tail t = some (.hit 4 40 6 1 0 (some [3])) ∧ (t.contacts.get 3).stable = .low)) = true := by decide +kernel
/-- Section 5.7, at 6200: the last entry completes entry 3, and the run ends behind its HIT. -/
theorem test_injectDelivery : gives (exec (.injectDelivery 2) (injecting (withTracker (withEntry
      (sourced State.reset 2 .test .test 0 200) 3 keypad .armed 0) 0 (half 3 2800 (some 9000))) 2 [.value 0x30] (some 0) 5))
    (fun t => decide (t.queue.records.map Record.body =
      [.started .powerOn, .hit 3 40 2 4 8000 none, .injectDone 2 6 0 .emptied])) = true := by decide +kernel
theorem test_latchRequest : gives (exec (.latchRequest 0) (waking State.reset 0 false none))
    (fun t => decide (t.wakes.get 0 = { config := pulseConfig, latch := true, pulse := some 40 } ∧ t.wakePin 0 = .low)) = true := by decide +kernel
theorem test_pulseExpiry : gives (exec (.pulseExpiry 0) (waking State.reset 0 true (some 0)))
    (fun t => decide ((t.wakes.get 0).latch = true ∧ t.wakePin 0 = .high)) = true := by decide +kernel
theorem test_gapDeadlineExpiry : gives (exec (.gapDeadlineExpiry 0) (withTracker door 0 (half 2 0 none)))
    (fun t => decide (t.trackers.get 0 = none ∧ t.queue.records.length = 1)) = true := by decide +kernel
theorem test_spanDeadlineExpiry : gives (exec (.spanDeadlineExpiry 0) (withTracker door 0 (half 2 500 (some 0))))
    (fun t => decide (t.trackers.get 0 = none)) = true := by decide +kernel
/-- Section 2.7, at 7700. -/
theorem test_holdoffExpiry : gives (exec (.holdoffExpiry 3 2) (withHoldoff door 3 2 0))
    (fun t => decide ((t.holdoffs.get 3).get 2 = none)) = true := by decide +kernel
/-- Section 7.6, at 60000. -/
theorem test_hostpwrChange : gives (exec (.hostpwrChange .low) ready) (fun t => decide (t.power.timer = some 10)) = true := by decide +kernel
/-- Section 7.6, at 60010: the session closes with reason HOST_POWER, POWER (ABSENT) enters, ATTN is asserted. -/
theorem test_qualifiedPowerChange : gives (exec .qualifiedPowerChange (supplied ready .low (some 0)))
    (fun t => decide (tail t = some (.power .absent) ∧ t.session.lastClose = .hostPower ∧ t.attn = .low)) = true := by decide +kernel
/-- R175: the clock wraps. -/
theorem test_clockTick : gives (exec .clockTick { ready with clock := 0xFFFFFFFF }) (fun t => decide (t.clock = 0)) = true := by decide +kernel
theorem test_resetAssert : gives (exec .resetAssert ready) (fun t => decide (t.resetHeld = true ∧ t.queue.records = [])) = true := by decide +kernel
/-- R141: the straps HIGH, LOW give 115200. -/
theorem test_powerOnSequence : gives (exec (.powerOnSequence .high .low) ready)
    (fun t => decide (t.link.rate = .r115200 ∧ tail t = some (.started .powerOn))) = true := by decide +kernel
theorem test_hrxLevelChange : gives (exec (.hrxLevelChange .low true) ready)
    (fun t => decide (t.link.breakTimer = some 5 ∧ t.link.byteReceiver = .taking)) = true := by decide +kernel
theorem test_sourceLineLevelChange : gives (exec (.sourceLineLevelChange 2 .low true) (listening State.reset))
    (fun t => decide ((t.serials.get 2).receiver = .receiving false)) = true := by decide +kernel

/-- Section 2.10, the parts of the first arrival that the pool decides: the freed tracker is claimed by the lower entry, and
the start that finds no free tracker is reported. -/
theorem test_exhausted_pool :
    let full : State := { State.reset with trackers := Table.fill 24 (some { half 1 9 none with pattern := 31, source := 0 }) }
    let entry (s : State) (p : PatternId) : State := withEntry s p { single 0x47 with steps := [⟨0x47, 0xFF⟩, ⟨0x0D, 0xFF⟩] } .armed 0
    let t := (entry (entry { full with trackers := full.trackers.set 7 none } 2) 8).arrival 4 (.value 0x47)
    decide ((t.trackers.get 7).map Tracker.pattern = some 2 ∧ tail t = some (.trackerShort 4 8) ∧ t.shortFlags.get 4 = true) =
      true := by decide +kernel

/-! ### For each statement with hypotheses, a state and operands that meet them: one theorem for each, a conjunct for each
clause -/

/-- A full frame of the largest payload, and a CHECK that differs. -/
theorem witness_FrameByBytes :
    (List.replicate 248 (0 : Byte)).length ≤ 248 ∧
    (let s := hearing .hunting .taking (some 5)
     s.TakesBytes ∧ s.link.receiver = .hunting) ∧
    (let s := hearing .hunting .taking (some 0)
     s.TakesBytes ∧ s.link.receiver = .hunting) ∧
    (Instr.unknownRequest 1 0x7F (List.replicate 248 0)).frame? = some (1, 0x7F, List.replicate 248 0) ∧
    [0x4D, 0x29] ≠ bytes2 (checkValue [0x02, 0x05, 0x01]) := by decide +kernel

theorem witness_ReceiverBytes :
    (∀ r ∈ [FrameReceiver.hunting, .receiving none [] 20, .receiving (some 2) [1, 2] 0],
      let s := hearing r .taking none
      s.power.qualified = .present ∧ s.link.byteReceiver ≠ .waiting ∧ s.link.receiver = r) ∧
    (0xA6 : Byte) ≠ 0xA7 ∧ 2 ≤ (2 : Byte).toNat ∧ (250 : Byte).toNat ≤ 250 ∧ (1 : Byte).toNat < 2 ∧ 250 < (251 : Byte).toNat ∧
    [1, 2].length + 1 < (2 : Byte).toNat + 2 := by decide +kernel

theorem witness_ReceiverAborts :
    (ready.power.qualified = .present ∧ ready.link.byteReceiver ≠ .waiting) ∧
    (hearing (.receiving none [] 0) .hunting none).link.receiver = .receiving none [] 0 ∧
    (hearing (.receiving (some 250) [] 1) .hunting none).link.receiver = .receiving (some 250) [] (0 + 1) := by decide +kernel

theorem witness_BreakAndLinkReset :
    (ready.power.qualified = .present ∧ ready.pins.hrx = .high) ∧
    (let s := { ready with pins := { ready.pins with hrx := .low } }
     s.power.qualified = .present ∧ s.pins.hrx = .low) ∧
    State.reset.power.qualified = .absent ∧
    (let s := hearing .hunting .waiting (some 0)
     s.power.qualified = .present ∧ s.link.breakTimer = some 0) ∧
    (hearing .hunting .waiting (some 1)).link.breakTimer ≠ some 0 ∧
    (Instr.identify 1 []).frame? = some (1, 0x01, []) := by decide +kernel

theorem witness_DispatchChecks :
    ((Instr.identify 1 []).frame? = some (1, 0x01, []) ∧ ¬(hearing .hunting .waiting none).TakesFrames ∧
      ¬(hearing .hunting .waiting (some 1)).TakesFrames ∧ ¬(hearing .hunting .waiting (some 0)).TakesBytes ∧
      ¬State.reset.TakesFrames ∧ ¬State.reset.TakesBytes) ∧
    (hearing .hunting .waiting (some 0)).TakesFrames ∧
    ((Instr.frameSetAside 2 0x01 []).frame? = some (2, 0x01, []) ∧ (replying ready 4).TakesFrames ∧
      4 ≤ (replying ready 4).link.replies.length) ∧
    ((replying closed 3).TakesFrames ∧ (replying closed 3).link.replies.length < 4) ∧
    (Instr.identify 0 []).frame? = some (0, 0x01, []) ∧
    ((Instr.unknownRequest 1 0x7F []).frame? = some (1, 0x7F, []) ∧ requestKinds.contains 0x7F = false) ∧
    ((Instr.closeSession 1 []).frame? = some (1, 0x04, []) ∧ requestKinds.contains 0x04 = true ∧
      (0x04 : Byte) ∉ [0x01, 0x02, 0x03, 0x09] ∧ (replying closed 3).session.opened = none) := by
  refine ⟨?_, ?_⟩ <;> decide +kernel

theorem witness_PayloadChecks :
    (∀ k ∈ Kind.all, ready.Reaches 1 k) ∧
    (Instr.setWake 1 [3, 1, 1, 1, 0, 1, 1]).frame? = some (1, Kind.setWake.code, [3, 1, 1, 1, 0, 1, 1]) ∧
    Kind.setWake ≠ .definePattern ∧
    (Kind.setWake.lengthFits [3, 1, 1, 1, 255, 1] = false ∧ Kind.inject.lengthFits (2 :: 33 :: List.replicate 66 0) = false ∧
      Kind.inject.lengthFits [2, 0] = false) ∧
    (Kind.setWake.lengthFits [3, 1, 1, 1, 0, 1, 1] = true ∧ ready.fieldsFit .setWake [3, 1, 1, 1, 0, 1, 1] = false ∧
      ready.fieldsFit .setWake [4, 1, 1, 1, 1, 1, 1] = false) ∧
    (ready.fieldsFit .setWake [3, 1, 1, 1, 1, 1, 1] = true ∧ Kind.inject.lengthFits (6 :: 32 :: List.replicate 64 0) = true ∧
      ready.fieldsFit .inject (6 :: 32 :: List.replicate 64 0) = true) := by decide +kernel

/-- A session whose last request was ACK_EVENTS with SEQ $13 (section 9.8). -/
def repeated : State := inSession ready fun o => { o with saved := some (plainReply 0x13 0x07 0) }

theorem witness_RepeatAnswered :
    (Instr.ackEvents 0x13 [0, 44]).frame? = some (0x13, 0x07, [0, 44]) ∧ repeated.TakesFrames ∧
    repeated.link.replies.length < 4 ∧ requestKinds.contains 0x07 = true ∧
    repeated.session.opened = some { freshSession 8 5000 with saved := some (plainReply 0x13 0x07 0) } ∧
    (plainReply 0x13 0x07 0).seq = 0x13 ∧ (plainReply 0x13 0x07 0).kind = 0x07 := by decide +kernel

theorem witness_OneReply :
    (Instr.identify 1 []).frame? = some (1, 0x01, []) ∧ (replying ready 3).TakesFrames ∧
    (replying ready 3).link.replies.length < 4 := by decide +kernel

theorem witness_Identify : (replying closed 3).Reaches 255 .identify := by decide +kernel
theorem witness_StatusAndAttn : (replying closed 3).Reaches 1 .readStatus := by decide +kernel
theorem witness_SetClock : (replying ready 3).Reaches 1 .setClock := by decide +kernel
theorem witness_RestartRequest : (replying closed 3).Reaches 1 .restart := by decide +kernel

theorem witness_TransmitFrameEnd :
    ({ ready with link := { ready.link with transmitter := .sendingNotice [] } } : State).link.transmitter = .sendingNotice [] ∧
    (replying ready 2).link.transmitter = .sendingReply (plainReply 9 0x02 0).frame ∧
    (replying ready 2).link.replies = plainReply 9 0x02 0 :: [plainReply 9 0x02 0] ∧ (plainReply 9 0x02 0).restart = false ∧
    (let r : Reply := { plainReply 9 0x09 0 with restart := true }
     let s := { ready with link := { ready.link with replies := [r], transmitter := .sendingReply r.frame } }
     s.link.transmitter = .sendingReply r.frame ∧ s.link.replies = r :: [] ∧ r.restart = true) := by decide +kernel

theorem witness_ClockTick : { ready with resetHeld := true }.resetHeld = true ∧ ready.resetHeld = false := by decide +kernel

theorem witness_OpenSessionRequest :
    closed.Reaches 1 .openSession ∧ ready.Reaches 1 .openSession ∧
    (1 ≤ (1 : Byte).toNat ∧ (1 : Byte).toNat ≤ 8 ∧ 20 ≤ ((0 : Byte) ++ (20 : Byte)).toNat) ∧
    ((8 : Byte).toNat ≤ 8 ∧ ((0x13 : Byte) ++ (0x88 : Byte)).toNat ≤ 5000) := by decide +kernel

theorem witness_SessionRequests :
    ready.session.opened = some (freshSession 8 5000) ∧ ready.Reaches 1 .closeSession ∧ ready.Reaches 1 .holdNotices ∧
    ready.Reaches 1 .releaseNotices := by decide +kernel

theorem witness_RetransmitExpiry :
    (let o := { freshSession 8 5000 with timer := some 0, round := 7 }
     (inSession ready fun _ => o).session.opened = some o ∧ o.timer = some 0 ∧ o.round < 8) ∧
    (let o := { freshSession 8 5000 with timer := some 0, round := 8 }
     (inSession ready fun _ => o).session.opened = some o ∧ o.timer = some 0 ∧ 8 ≤ o.round) := by decide +kernel

/-- One record WAITING, the queue's numbers in order. -/
def oneWaiting : State := queued ready [record 1 .waiting (.power .present)] 2 0

/-- Two records SENT, the second of them to be sent again, and one WAITING. -/
def resending : State :=
  inSession (queued ready [record 1 .sent (.power .present), record 2 .sent (.power .absent),
    record 3 .waiting (.power .present)] 4 0) fun o => { o with round := 1, resend := [2], timer := some 7 }

theorem witness_NoticeChoice :
    (oneWaiting.queue.Ok ∧ oneWaiting.MarksOk ∧ oneWaiting.SessionOk ∧
      oneWaiting.chooseNotice.map Prod.fst = some (record 1 .waiting (.power .present))) ∧
    (resending.queue.Ok ∧ resending.MarksOk ∧ resending.SessionOk ∧
      resending.chooseNotice.map Prod.fst = some (record 2 .sent (.power .absent))) := by
  refine ⟨?_, ?_⟩ <;> decide +kernel

/-- Section 6.8 in small: 102 and 103 SENT, 104 WAITING, 4 lost. -/
def behind : State :=
  queued ready [record 102 .sent (.power .present), record 103 .sent (.lineError 0 .framing), record 104 .waiting (.power .absent)]
    105 4

theorem witness_AckEvents :
    behind.Reaches 2 .ackEvents ∧
    behind.queue.records = [record 102 .sent (.power .present)] ++ record 103 .sent (.lineError 0 .framing) ::
      [record 104 .waiting (.power .absent)] ∧
    (record 103 .sent (.lineError 0 .framing)).number = ((0 : Byte) ++ (103 : Byte) : Half) ∧
    (∀ x ∈ [record 102 .sent (.power .present)], x.number ≠ ((0 : Byte) ++ (103 : Byte) : Half)) ∧
    (record 103 .sent (.lineError 0 .framing)).mark = .sent ∧
    (∀ x ∈ behind.queue.records, x.number = ((0 : Byte) ++ (104 : Byte) : Half) → x.mark = .waiting) ∧
    (∀ x ∈ behind.queue.records, x.number = ((0 : Byte) ++ (9 : Byte) : Half) → x.mark = .waiting) := by decide +kernel

/-- A source configuration at the ends of its ranges. -/
def wide (enable : Bool) (mode : SourceMode) (settle : Nat) : SourceConfig :=
  { enable := enable, mode := mode, settleTime := settle, reporting := true, spacing := 1000 }

/-- A line configuration. -/
def aLine : LineConfig := { rate := .r9600, dataBits := .seven, parity := .odd, domain := .standby }

theorem witness_SetSource :
    ready.Reaches 1 .setSource ∧ ((some aLine).isSome = true ↔ (2 : SourceId) ≠ 6) ∧
    ((none : Option LineConfig).isSome = true ↔ (6 : SourceId) ≠ 6) ∧
    (∀ c ∈ [wide true .live 2000, wide true .live 0, wide true .test 0, wide false .live 0], c.settleTime ≤ 2000 ∧ c.spacing ≤ 1000) ∧
    ((listening ready).Reaches 1 .setSource ∧ ((listening ready).sources.get 2).config.enable = true ∧
      (wide true .live 0).enable = true) ∧
    (wide false .live 0).enable = false ∧
    (∀ src ∈ [(2 : SourceId), 6], (ready.sources.get src).config.enable = false ∧ (ready.sources.get src).state = .off) ∧
    (∀ i : SerialId, (ready.serials.get i).receiver = .stopped) ∧
    (wide true .test 0).mode = .test ∧ (wide true .live 2000).settleTime ≠ 0 ∧ (wide true .live 0).settleTime = 0 := by
  decide +kernel

theorem witness_ReadSourceAndContacts : ready.Reaches 1 .readSource ∧ ready.Reaches 1 .readContacts := by decide +kernel

/-- S2 in TEST with a full or an empty injection queue. -/
def testing (n : Nat) : State :=
  injecting (lined (sourced ready 2 .test .test 0 200) 2 .seven .none .standby .stopped) 2 (List.replicate n (.value 1))
    (if n = 0 then none else some 0) 0

theorem witness_InjectAndCancel :
    (testing 0).Reaches 1 .inject ∧ (testing 32).Reaches 1 .inject ∧ ready.Reaches 1 .inject ∧
    (((testing 0).serials.get 2).line.dataBits = .seven ∧ ¬(128 : Byte).toNat ≤ 127) ∧ (127 : Byte).toNat ≤ 127 ∧
    (ready.sources.get 2).state ≠ .test ∧
    (((testing 32).sources.get 2).state = .test ∧ 32 < ((testing 32).injectors.get 2).queue.length + [Symbol.value 127].length) ∧
    (((testing 0).sources.get 2).state = .test ∧
      ((testing 0).injectors.get 2).queue.length + (List.replicate 32 (Symbol.value 127)).length ≤ 32) ∧
    (testing 0).Reaches 1 .cancelInject ∧ ((testing 0).injectors.get 2).queue = [] ∧
    (testing 32).Reaches 1 .cancelInject ∧ ((testing 32).injectors.get 2).queue ≠ [] := by
  refine ⟨?_, ?_, ?_, ?_, ?_, ?_, ?_, ?_, ?_, ?_, ?_, ?_⟩ <;> decide +kernel

theorem witness_InjectDelivery :
    ((testing 1).injectors.get 2).queue = .value 1 :: [] ∧ ((testing 1).sources.get 2).state = .test ∧
    ((testing 1).injectors.get 2).timer = some 0 ∧ ((testing 2).injectors.get 2).queue = .value 1 :: [.value 1] ∧
    ((injecting (testing 1) 2 [.value 1] (some 1) 0).injectors.get 2).timer = some (0 + 1) := by decide +kernel

theorem witness_SerialCharacter :
    (((listening ready).sources.get (sourceOf 2)).state = .listening ∧ ((listening ready).serials.get 2).receiver = .hunting) ∧
    (let s := lined (sourced ready 2 (.settling 5) .live 50 100) 2 .eight .even .standby (.receiving true)
     (s.sources.get (sourceOf 2)).state = .settling 5 ∧ (s.serials.get 2).receiver = .receiving true) ∧
    ((lined (listening ready) 2 .eight .odd .standby (.receiving true)).serials.get 2).receiver = .receiving true := by
  decide +kernel

theorem witness_Delivery : (2 : SourceId) = sourceOf 2 := by decide +kernel

theorem witness_LineLevelsAndSettling :
    ({ ready with pins := { ready.pins with lines := ready.pins.lines.set 2 .low } } : State).pins.lines.get 2 = .low ∧
    ((listening ready).pins.lines.get 2 = .high ∧ ((listening ready).serials.get 2).receiver = .hunting ∧
      ((listening ready).sources.get (sourceOf 2)).state = .listening) ∧
    (ready.serials.get 2).receiver ≠ .hunting ∧
    (let s := lined (sourced ready 2 (.settling 5) .live 50 100) 2 .eight .none .standby .hunting
     s.pins.lines.get 2 = .high ∧ (s.serials.get 2).receiver = .hunting ∧ (s.sources.get (sourceOf 2)).state = .settling 5) ∧
    ((sourced ready 6 (.settling 0) .live 50 100).sources.get 6).state = .settling 0 ∧
    ((sourced ready 6 (.settling 1) .live 50 100).sources.get 6).state = .settling (0 + 1) := by decide +kernel

theorem witness_ContactEdges :
    ((lid ready 20 .high none .high).pins.contacts.get 3 ≠ .low ∧ ready.resetHeld = false) ∧
    (let s := lid ready 20 .high (some 0) .low
     (s.contacts.get 3).timer = some 0 ∧ s.pins.contacts.get 3 = .low ∧ .low ≠ (s.contacts.get 3).stable) ∧
    ((lid ready 20 .high (some 1) .low).contacts.get 3).timer = some (0 + 1) := by decide +kernel

theorem witness_SetContact :
    (lid ready 20 .high (some 10) .low).Reaches 1 .setContact ∧
    (let cfg : ContactConfig := { polarity := .activeHigh, debounce := 50, selection := .both }
     cfg.debounce = 0 ∨ cfg.debounce = 5 ∨ cfg.debounce = 20 ∨ cfg.debounce = 50) := by decide +kernel

theorem witness_StepTest :
    servicePort.steps[3]? = some ⟨0x0D, 0xFF⟩ ∧ servicePort.skip = some ⟨0x0A, 0xFF⟩ ∧
    ((RawDefinition.parse (5 :: servicePort.bytes)).bind RawDefinition.check) = some servicePort ∧
    (withEntry ready 9 (single 7) .armed 1).Reaches 1 .readPattern ∧
    (withEntry ready 9 (single 7) .armed 1).patterns.get 9 = some { phase := .armed, definition := single 7, hits := 1 } := by
  decide +kernel

/-- A definition with every field at the end of its range. -/
def widest : Definition :=
  { keypad with
    sources := 0x7F
    steps := List.replicate 12 ⟨0, 0⟩
    gapLimit := 60000
    spanLimit := some 600000
    policy := .holdoff 60000
    oneShot := true
    capture := true
    route := 0xF }

theorem witness_DefinePattern :
    (withEntry ready 9 (single 7) .armed 1).Reaches 1 .definePattern ∧ widest.Ok ∧ (single 7).Ok ∧
    (∀ e ∈ (withEntry ready 9 (single 7) .armed 1).patterns.get 31, e.phase ≠ .armed) ∧
    (∀ e ∈ (withEntry ready 31 (single 7) .spent 1).patterns.get 31, e.phase ≠ .armed) ∧
    (∃ e ∈ (withEntry ready 9 (single 7) .armed 1).patterns.get 9, e.phase = .armed) := by decide +kernel

/-- The widest definition is read back from its bytes. -/
theorem test_widest_definition : (RawDefinition.parse (31 :: widest.bytes)).bind RawDefinition.check = some widest := by
  decide +kernel

theorem witness_DefinitionChecks :
    ready.Reaches 1 .definePattern ∧ (31 :: widest.bytes).length ≤ 248 ∧ (∀ e ∈ ready.patterns.get 31, e.phase ≠ .armed) ∧
    RawDefinition.parse [31] = none ∧ RawDefinition.parse (32 :: (single 7).bytes) ≠ none ∧
    (RawDefinition.parse (31 :: (single 7).bytes)).bind RawDefinition.check = some (single 7) ∧
    (RawDefinition.parse (31 :: widest.bytes)).bind RawDefinition.check = some widest := by decide +kernel

theorem witness_ArmPattern :
    (withEntry ready 9 (single 7) .spent 1).Reaches 1 .armPattern ∧
    (withEntry ready 9 (single 7) .spent 1).patterns.get 9 = some { phase := .spent, definition := single 7, hits := 1 } ∧
    (withEntry ready 9 (single 7) .spent 1).patterns.get 31 = none := by decide +kernel

theorem witness_StopAndErase :
    (∀ k ∈ [Kind.stopPattern, .erasePattern], ∀ ph ∈ [Phase.stopped, .armed, .spent],
      (withEntry ready 9 (single 7) ph 1).Reaches 1 k ∧
        (withEntry ready 9 (single 7) ph 1).patterns.get 9 = some { phase := ph, definition := single 7, hits := 1 }) ∧
    ready.patterns.get 9 = none := by decide +kernel

theorem witness_ReadPattern :
    ready.Reaches 1 .readPattern ∧ ready.patterns.get 9 = none ∧ (withEntry ready 9 (single 7) .armed 1).Reaches 1 .readPattern ∧
    (withEntry ready 9 (single 7) .armed 1).patterns.get 9 = some { phase := .armed, definition := single 7, hits := 1 } := by
  decide +kernel

theorem witness_TrackerJudging :
    (withTracker door 0 (half 1 3000 none)).trackers.get 0 = some (half 1 3000 none) ∧
    ((half 1 3000 none).source ≠ 5 ∧ (withTracker State.reset 0 (half 1 3000 none)).participant 2 3 = none) ∧
    (withTracker door 0 (half 1 3000 none)).participant 2 3 = some keypad ∧ keypad.passesOver (.value 0xB2) = true ∧
    (keypad.passesOver (.value 0x35) = false ∧ keypad.matchesStep 1 (.value 0x35) = true ∧ 1 + 1 ≠ keypad.steps.length) ∧
    (keypad.passesOver (.value 0x30) = false ∧ keypad.matchesStep 3 (.value 0x30) = true ∧ 3 + 1 = keypad.steps.length) ∧
    (keypad.passesOver (.value 0x39) = false ∧ keypad.matchesStep 2 (.value 0x39) = false ∧ keypad.policy = .holdoff 5000) := by
  decide +kernel

/-- S2 LISTENING and the one-step pattern ARMED in entry 31. -/
def bell : State := withEntry (listening State.reset) 31 (single 7) .armed 65535

/-- Every tracker of the pool is in use. -/
def fullPool (s : State) : State := { s with trackers := Table.fill 24 (some { half 1 9 none with pattern := 31, source := 0 }) }

theorem witness_LonePattern :
    (door.patterns.get 3 = some { phase := .armed, definition := keypad, hits := 0 } ∧ door.participant 2 3 = some keypad ∧
      (∀ p' : PatternId, p' ≠ 3 → door.participant 2 p' = none) ∧
      (∀ i : TrackerId, ∀ t ∈ door.trackers.get i, ¬(t.pattern = 3 ∧ t.source = 2)) ∧ (door.holdoffs.get 3).get 2 = none ∧
      keypad.passesOver (.value 0x32) = false ∧ keypad.matchesStep 0 (.value 0x32) = true ∧ keypad.steps.length ≠ 1 ∧
      door.trackers.get 0 = none ∧ ∀ j : TrackerId, j < 0 → door.trackers.get j ≠ none) ∧
    ((fullPool door).participant 2 3 = some keypad ∧ (∀ p' : PatternId, p' ≠ 3 → (fullPool door).participant 2 p' = none) ∧
      (∀ i : TrackerId, ∀ t ∈ (fullPool door).trackers.get i, ¬(t.pattern = 3 ∧ t.source = 2)) ∧
      ∀ i : TrackerId, (fullPool door).trackers.get i ≠ none) ∧
    (bell.patterns.get 31 = some { phase := .armed, definition := single 7, hits := 65535 } ∧
      bell.participant 2 31 = some (single 7) ∧ (∀ p' : PatternId, p' ≠ 31 → bell.participant 2 p' = none) ∧
      (∀ i : TrackerId, ∀ t ∈ bell.trackers.get i, ¬(t.pattern = 31 ∧ t.source = 2)) ∧ (bell.holdoffs.get 31).get 2 = none ∧
      (single 7).passesOver (.value 7) = false ∧ (single 7).matchesStep 0 (.value 7) = true ∧ (single 7).steps.length = 1) ∧
    (let s := withTracker door 23 (half 3 1 (some 1))
     s.trackers.get 23 = some (half 3 1 (some 1)) ∧ (half 3 1 (some 1)).source = 2 ∧
      s.patterns.get 3 = some { phase := .armed, definition := keypad, hits := 0 } ∧ s.participant 2 3 = some keypad ∧
      (∀ p' : PatternId, p' ≠ 3 → s.participant 2 p' = none) ∧
      (∀ j : TrackerId, j ≠ 23 → ∀ u ∈ s.trackers.get j, ¬(u.pattern = 3 ∧ u.source = 2)) ∧
      keypad.passesOver (.value 0x30) = false ∧ keypad.matchesStep 3 (.value 0x30) = true ∧ 3 + 1 = keypad.steps.length) := by
  refine ⟨?_, ?_, ?_, ?_⟩ <;> decide +kernel

/-- S2 LISTENING and, on it, RESTART patterns that a lone symbol may begin (4, 20), carry on (3) and complete (6), and a one-step
pattern that consumes (9). -/
def crowd (s : State) : State :=
  let two (st : List PatternStep) : Definition :=
    { servicePort with sources := 0x7F, steps := st, skip := none, condition := .always, consume := false }
  let s1 := withEntry (withEntry (withEntry s 3 (two [⟨1, 0xFF⟩, ⟨7, 0xFF⟩, ⟨9, 0xFF⟩]) .armed 0) 4 (two [⟨7, 0xFF⟩, ⟨8, 0xFF⟩])
    .armed 0) 6 (two [⟨2, 0xFF⟩, ⟨7, 0xFF⟩]) .armed 0
  let s2 := withEntry (withEntry s1 9 (single 7) .armed 65535) 20 (two [⟨7, 0xFF⟩, ⟨8, 0xFF⟩]) .armed 0
  let at' (p : PatternId) (n : Nat) (vs : List Byte) : Tracker :=
    { half n 5 (some 5) with pattern := p, captured := some vs }
  withTracker (withTracker (withTracker s2 0 (at' 3 1 [1])) 1 (at' 6 1 [2])) 5 (at' 4 1 [7])

/-- The premise of the statement, in a state where several patterns take part. -/
theorem witness_ArrivalOfMany :
    (crowd (listening ready)).PoolOk ∧
    ∀ p ∈ [(3 : PatternId), 4, 6, 9, 20], ((crowd (listening ready)).participant 2 p).isSome = true := by decide +kernel

/-- R31, R33, R36, R38, R42: the symbol 7 advances entry 3, completes entry 6, is a mismatch of entry 4, which it starts again,
completes entry 9, and starts entry 20; entry 9 then consumes every tracker of the source. The records stand in index order. -/
theorem test_arrival_of_many :
    let t := (crowd (listening ready)).arrival 2 (.value 7)
    decide (t.queue.records.map Record.body =
        [.hit 6 261 2 2 8000 (some [2, 7]), .hit 9 40 2 1 0 (some [7])] ∧
      (t.patterns.get 9).map (fun e => (e.phase, e.hits)) = some (.spent, 65535) ∧ t.latchRequests = [0, 1, 2, 3] ∧
      t.trackers = Table.fill 24 none) = true := by decide +kernel

/-- R31, R33, R36: without entry 9 the trackers stay: entry 3's in its place, and the starts of 4 and 20 in the lowest free
ones. -/
theorem test_arrival_restarts :
    let s := crowd (listening ready)
    let t := { s with patterns := s.patterns.set 9 none }.arrival 2 (.value 7)
    let at' (i : TrackerId) (p : PatternId) (n : Nat) (vs : List Byte) : Bool :=
      (t.trackers.get i).any fun u => decide (u.pattern = p ∧ u.next = n ∧ u.captured = some vs)
    (at' 0 3 2 [1, 7] && at' 1 4 1 [7] && at' 2 20 1 [7] && (t.trackers.get 5).isNone) = true := by decide +kernel

theorem witness_HitsOnce :
    (withTracker door 0 (half 3 3000 (some 1))).PatternsOk ∧ (withTracker door 0 (half 3 3000 (some 1))).PoolOk ∧
    door.patterns.get 0 = none ∧ door.patterns.get 3 = some { phase := .armed, definition := keypad, hits := 0 } := by
  refine ⟨?_, ?_, ?_, ?_⟩ <;> decide +kernel

theorem witness_EngineExpiries :
    (withTracker door 23 (half 2 0 (some 0))).trackers.get 23 = some (half 2 0 (some 0)) ∧
    ((half 2 0 (some 0)).gap = 0 ∧ (half 2 0 (some 0)).span = some 0) ∧
    ((half 2 1 (some 1)).gap ≠ 0 ∧ (half 2 1 (some 1)).span ≠ some 0 ∧ (half 2 1 none).span ≠ some 0) ∧
    ((withHoldoff door 31 6 0).holdoffs.get 31).get 6 = some 0 ∧ ((withHoldoff door 31 6 1).holdoffs.get 31).get 6 ≠ some 0 := by
  decide +kernel

theorem witness_TrackerRequests : ready.Reaches 1 .readTrackers ∧ ready.Reaches 1 .flushTrackers := by decide +kernel

theorem witness_LatchAndPulse :
    (let x := (waking State.reset 0 false none).wakes.get 0
     x.config.enable = true ∧ (x.config.gate = .any ∨ State.reset.power.qualified = .absent) ∧ x.latch = false) ∧
    (let x := (waking ready 0 false none).wakes.get 0
     ¬(x.config.enable = true ∧ (x.config.gate = .any ∨ ready.power.qualified = .absent) ∧ x.latch = false)) ∧
    ((waking State.reset 3 true (some 0)).wakes.get 3).pulse = some 0 ∧
    ((waking State.reset 3 true (some 1)).wakes.get 3).pulse ≠ some 0 := by decide +kernel

theorem witness_SetAndClearWake :
    ready.Reaches 1 .setWake ∧ pulseConfig.width ≠ 0 ∧ { pulseConfig with width := 0 }.width = 0 ∧ ready.Reaches 1 .clearWake := by
  decide +kernel

theorem witness_ReadWake : ready.Reaches 1 .readWake := by decide +kernel

theorem witness_HostpwrChange :
    (ready.pins.hostpwr ≠ .low ∧ ready.resetHeld = false) ∧ (State.reset.pins.hostpwr ≠ .high ∧ State.reset.resetHeld = false) ∧
    ({ ready with resetHeld := true }.pins.hostpwr ≠ .low ∧ { ready with resetHeld := true }.resetHeld = true) := by decide +kernel

/-- S1 set up as the card reader of section 3.7. -/
def reader (s : State) (st : SourceState) (r : Receiver) : State :=
  lined (sourced s 1 st .live 300 100) 1 .eight .even .host r

theorem witness_QualifiedPowerChange :
    (let s := supplied (reader ready .listening .hunting) .low (some 0)
     s.SourcesOk ∧ s.power.timer = some 0 ∧ s.power.qualified ≠ .absent ∧ (s.pins.hostpwr = .high ↔ HostPower.absent = .present)) ∧
    (let s := supplied (reader State.reset .off .stopped) .high (some 0)
     s.SourcesOk ∧ s.power.timer = some 0 ∧ s.power.qualified ≠ .present ∧
      (s.pins.hostpwr = .high ↔ HostPower.present = .present)) := by decide +kernel

/-- A state that takes a step: the keypad half entered in TEST, a session open and a command waiting. -/
def busy : State :=
  { withTracker (withEntry (sourced ready 2 .test .test 0 200) 3 { keypad with condition := .always } .armed 0) 0 (half 2 3000 (some 1)) with
    pending := [.clockTick] }

theorem witness_busy_steps : gives (step busy) (fun _ => true) = true := by decide +kernel
theorem witness_QueueKept : busy.queue.Ok ∧ busy.MarksOk := by decide +kernel
theorem witness_ReportFlagsKept : busy.FlagsOk := by decide +kernel
theorem witness_EngineKept : busy.PatternsOk ∧ busy.PoolOk ∧ busy.HoldoffsOk ∧ busy.SourcesOk ∧ busy.InjectorsOk := by
  refine ⟨?_, ?_, ?_, ?_, ?_⟩ <;> decide +kernel
theorem witness_PinsKept : busy.ContactsOk ∧ busy.WakesOk ∧ busy.PowerOk := by decide +kernel
theorem witness_LinkKept : busy.LinkOk ∧ busy.ArbiterOk := by decide +kernel
theorem witness_SessionKept : busy.SessionOk := by decide +kernel
theorem witness_ResetKept : busy.ResetOk ∧ (let s := ready.resetBlocks .r9600; { s with resetHeld := true }.ResetOk) := by
  decide +kernel

theorem witness_RateHolds :
    (∀ lr1 lr0, Instr.transmitFrameEnd ≠ .powerOnSequence lr1 lr0) ∧
    gives (exec .transmitFrameEnd (replying ready 2)) (fun _ => true) = true :=
  ⟨(by intro _ _ h; cases h), by decide +kernel⟩

theorem witness_RecordsStay :
    (∀ q k p, Instr.transmitFrameEnd.frame? = some (q, k, p) → k ≠ 0x07) ∧ (∀ b, Instr.transmitFrameEnd ≠ .linkByte b) ∧
    Instr.transmitFrameEnd ≠ .resetAssert ∧ (∀ lr1 lr0, Instr.transmitFrameEnd ≠ .powerOnSequence lr1 lr0) ∧
    (∀ r ∈ (replying oneWaiting 2).link.replies, r.restart = false) ∧
    gives (exec .transmitFrameEnd (replying oneWaiting 2)) (fun _ => true) = true :=
  ⟨(by intro _ _ _ h; cases h), (by intro _ h; cases h), (by intro h; cases h), (by intro _ _ h; cases h),
    (by decide +kernel), by decide +kernel⟩

end Sys2Proof.Tests
end

section
/-! PROOFS. The pattern table (chapter 1): the step test of R3, the checks of R17 on DEFINE_PATTERN, and ARM_PATTERN (R19). -/
namespace Sys2Proof.Machine

/-! ### What an answer leaves behind -/

theorem State.Answered.patterns_eq {s t : State} {r : Reply} (h : s.Answered t r) : t.patterns = s.patterns := by
  rw [h.rest]

theorem State.Answered.replies_eq {s t : State} {r : Reply} (h : s.Answered t r) :
    t.link.replies = s.link.replies ++ [r] := by
  rw [h.link]

/-- A refused request whose statement leaves the line after the frame open. -/
theorem exec_refuses_frameDone {s : State} {i : Instr} {q : Byte} {k : Kind} {p : List Byte} {st : Status} {r : Reply}
    (hf : i.frame? = some (q, k.code, p)) (h : s.Reaches q k) (hp : p.length ≤ 248)
    (ha : answerOf k p s.afterFrame = .refuse st)
    (hr : r = { seq := q, kind := k.code, payload := [st.code], restart := false }) :
    ∃ t u, exec i s = .next t ∧ s.FrameDone u ∧ u.Answered t r := by
  obtain ⟨t, ht, hans⟩ := exec_refuses hf h hp ha hr
  exact ⟨t, s.afterFrame, ht, s.afterFrame_frameDone, hans⟩

theorem index?_32_eq_none_iff (b : Byte) : index? 32 b = none ↔ ¬b.toNat ≤ 31 := by
  simp only [index?, dite_eq_right_iff, reduceCtorEq, imp_false]
  omega

theorem index?_lt {n : Nat} {b : Byte} {i : Fin n} (h : index? n b = some i) : b.toNat < n := by
  obtain ⟨hlt, -⟩ := Option.dite_none_right_eq_some.1 h
  exact hlt

theorem index?_eq_some {n : Nat} {b : Byte} {i : Fin n} (h : index? n b = some i) : indexByte i = b := by
  obtain ⟨hlt, e⟩ := Option.dite_none_right_eq_some.1 h
  cases e
  exact byteOf_toNat_self b

/-! ### The step test (R3) -/

/-- A step looks at the bit positions where its mask holds a 1, and at no other. -/
theorem PatternStep.selects_iff (st : PatternStep) (v : Byte) :
    st.selects v = true ↔ ∀ b : Nat, b < 8 → st.mask.getLsbD b = true → v.getLsbD b = st.value.getLsbD b := by
  have bit (b : Nat) : ((v ^^^ st.value) &&& st.mask).getLsbD b = false ↔
      (st.mask.getLsbD b = true → v.getLsbD b = st.value.getLsbD b) := by
    rw [BitVec.getLsbD_and, BitVec.getLsbD_xor]
    cases v.getLsbD b <;> cases st.value.getLsbD b <;> simp
  simp only [PatternStep.selects, decide_eq_true_eq]
  constructor
  · intro h b _
    exact (bit b).1 (by rw [h]; exact BitVec.getLsbD_zero)
  · intro h
    apply BitVec.eq_of_getLsbD_eq
    intro b hb
    exact ((bit b).2 (h b hb)).trans BitVec.getLsbD_zero.symm

theorem Definition.matchesStep_value {d : Definition} {k : Nat} {st : PatternStep} (h : d.steps[k]? = some st) (v : Byte) :
    d.matchesStep k (.value v) = st.selects v := by
  simp [Definition.matchesStep, h]

theorem Definition.matchesStep_error (d : Definition) (k : Nat) (e : ErrorKind) : d.matchesStep k (.error e) = false := by
  unfold Definition.matchesStep
  cases d.steps[k]? <;> rfl

theorem Definition.passesOver_value {d : Definition} {st : PatternStep} (h : d.skip = some st) (v : Byte) :
    d.passesOver (.value v) = st.selects v := by
  simp [Definition.passesOver, h]

theorem Definition.passesOver_error (d : Definition) (e : ErrorKind) : d.passesOver (.error e) = false := by
  unfold Definition.passesOver
  cases d.skip <;> rfl

/-! ### The steps of a definition in its bytes (section 11.4) -/

/-- The bytes of a definition that stand before its steps, the step count included. -/
def Definition.headBytes (d : Definition) : List Byte :=
  bytes2 d.label ++ [d.sources.setWidth 8] ++ nat2 d.gapLimit ++ optField nat4 d.spanLimit ++ d.policy.bytes ++
    [d.condition.code, yesNo d.consume, yesNo d.oneShot, yesNo d.report, yesNo d.capture, d.route.setWidth 8] ++
    optField PatternStep.bytes d.skip ++ [byteOf d.steps.length]

theorem Definition.bytes_eq_headBytes_append (d : Definition) :
    d.bytes = d.headBytes ++ d.steps.flatMap fun st => [st.value, st.mask] :=
  List.append_cons ..

theorem Policy.bytes_length (p : Policy) : p.bytes.length = 3 := by cases p <;> rfl

theorem optField_length {α : Type} (enc : α → List Byte) {n : Nat} (h : ∀ a, (enc a).length = n) (x : Option α) :
    (optField enc x).length = 1 + (if x.isSome = true then n else 0) := by
  cases x with
  | none => rfl
  | some a => simp [optField, h, Nat.add_comm]

theorem Definition.headBytes_length (d : Definition) :
    d.headBytes.length =
      17 + (if d.spanLimit.isSome = true then 4 else 0) + (if d.skip.isSome = true then 2 else 0) := by
  have hspan := optField_length nat4 nat4_length d.spanLimit
  have hskip := optField_length PatternStep.bytes (n := 2) (fun _ => rfl) d.skip
  simp only [Definition.headBytes, List.length_append, hspan, hskip, Policy.bytes_length, bytes2_length, nat2_length,
    List.length_cons, List.length_nil]
  omega

/-! ### READ_PATTERN and ARM_PATTERN at the pattern table -/

/-- READ_PATTERN of an entry that holds a definition (R22). -/
theorem answerOf_readPattern_of_entry {s : State} {p : PatternId} {e : Entry} (h : s.patterns.get p = some e) (clear : Bool) :
    answerOf .readPattern [indexByte p, yesNo clear] s =
      .accept (entryStateCode (some e) :: e.definition.bytes ++ bytes2 e.hits ++ [yesNo (s.entryEffective e)])
        (if clear = true then s.setEntry p (some { e with hits := 0 }) else s) := by
  simp only [answerOf, answerReadPattern, index?_indexByte (show 32 ≤ 256 by decide) p, yesNo?_yesNo, h]

/-- The reply to READ_PATTERN of an entry that holds a definition, whatever notice the arbiter begins (R22). -/
theorem readPattern_reply {s : State} {q : Byte} {p : PatternId} {e : Entry} (hreach : s.Reaches q .readPattern)
    (he : s.patterns.get p = some e) (clear : Bool) :
    ∃ t, exec (.readPattern q [indexByte p, yesNo clear]) s = .next t ∧
      t.link.replies = s.link.replies ++ [
        { seq := q, kind := 0x24, restart := false
          payload := 0x00 :: entryStateCode (some e) :: e.definition.bytes ++ bytes2 e.hits ++
            [yesNo (s.afterFrame.entryEffective e)] }] := by
  have hanswer := answerOf_readPattern_of_entry (s := s.afterFrame) he clear
  obtain ⟨hlink, hpower, -⟩ := answerOf_accept_keeps (k := .readPattern) hanswer
  obtain ⟨t, ht, hans⟩ := exec_accepts (i := .readPattern q [indexByte p, yesNo clear]) (k := .readPattern) rfl hreach
    (by simp) hanswer hpower rfl rfl
  exact ⟨t, ht, by rw [hans.replies_eq, hlink]; rfl⟩

/-- ARM_PATTERN of an entry that holds a definition (R19). -/
theorem answerOf_armPattern_of_entry {s : State} {p : PatternId} {e : Entry} (h : s.patterns.get p = some e) :
    answerOf .armPattern [indexByte p] s =
      .accept [entryStateCode (some e)] (s.setEntry p (some { e with phase := .armed })) := by
  simp only [answerOf, answerArmPattern, index?_indexByte (show 32 ≤ 256 by decide) p, h]

/-- ARM_PATTERN of an EMPTY entry (R19). -/
theorem answerOf_armPattern_of_empty {s : State} {p : PatternId} (h : s.patterns.get p = none) :
    answerOf .armPattern [indexByte p] s = .refuse .wrongState := by
  simp only [answerOf, answerArmPattern, index?_indexByte (show 32 ≤ 256 by decide) p, h]

/-! ### The value stage of DEFINE_PATTERN (R17), field by field -/

theorem sourceSet?_iff (b : Byte) : b.getLsbD 7 = false ↔ ∃ r, sourceSet? b = some r := by
  unfold sourceSet?
  cases b.getLsbD 7 <;> simp

theorem presence?_iff (b : Byte) : presence? b = some () ↔ b = 0 ∨ b = 1 := by
  simp only [presence?, Option.ite_none_right_eq_some, and_true]

theorem gapLimit?_eq_some_iff (h : Half) (n : Nat) : gapLimit? h = some n ↔ (1 ≤ n ∧ n ≤ 60000) ∧ h.toNat = n := by
  unfold gapLimit?
  constructor
  · intro e
    obtain ⟨hr, e⟩ := Option.ite_none_right_eq_some.1 e
    cases e
    exact ⟨hr, rfl⟩
  · rintro ⟨hr, rfl⟩
    exact if_pos hr

theorem spanLimit?_eq_some_iff (w : Option Word) (x : Option Nat) :
    spanLimit? w = some x ↔ (∀ n ∈ x, 1 ≤ n ∧ n ≤ 600000) ∧ w.map BitVec.toNat = x := by
  cases w with
  | none => simp +contextual [spanLimit?, eq_comm]
  | some w =>
    simp only [spanLimit?, Option.ite_none_right_eq_some, Option.map_some, Option.some.injEq]
    constructor
    · rintro ⟨hr, rfl⟩
      simpa using hr
    · rintro ⟨hr, rfl⟩
      simpa using hr

/-- The two policies that the fields may spell (R8, R17). -/
theorem policy?_eq_some_iff (code : Byte) (time : Half) (p : Policy) :
    policy? code time = some p ↔
      (code = 0x00 ∧ time = 0 ∧ p = .restart) ∨
        (code = 0x01 ∧ (1 ≤ time.toNat ∧ time.toNat ≤ 60000) ∧ p = .holdoff time.toNat) := by
  constructor
  · intro h
    unfold policy? at h
    split at h
    next restart =>
      obtain ⟨hzero, e⟩ := Option.ite_none_right_eq_some.1 h
      exact .inl ⟨restart, hzero, (Option.some.inj e).symm⟩
    next =>
      obtain ⟨holdoff, h⟩ := Option.ite_none_right_eq_some.1 h
      obtain ⟨hr, e⟩ := Option.ite_none_right_eq_some.1 h
      exact .inr ⟨holdoff, hr, (Option.some.inj e).symm⟩
  · rintro (⟨rfl, rfl, rfl⟩ | ⟨rfl, hr, rfl⟩)
    · rfl
    · exact if_pos hr

/-- A policy that was read is in range and is the bytes it was read from. -/
theorem policy?_back {code : Byte} {time : Half} {p : Policy} (h : policy? code time = some p) :
    p.inRange = true ∧ p.bytes = code :: bytes2 time := by
  obtain ⟨rfl, rfl, rfl⟩ | ⟨rfl, hr, rfl⟩ := (policy?_eq_some_iff ..).1 h
  · exact ⟨rfl, rfl⟩
  · exact ⟨decide_eq_true hr, congrArg _ (nat2_toNat time)⟩

theorem policy?_iff (code : Byte) (time : Half) :
    ((code = 0x00 ∧ time = 0) ∨ (code = 0x01 ∧ 1 ≤ time.toNat ∧ time.toNat ≤ 60000)) ↔ ∃ p, policy? code time = some p := by
  simp only [policy?_eq_some_iff, exists_or, exists_and_left, exists_eq, and_true]

theorem Condition.ofCode?_iff (b : Byte) : (b = 0x00 ∨ b = 0x01 ∨ b = 0x02) ↔ ∃ c, Condition.ofCode? b = some c := by
  constructor
  · rintro (rfl | rfl | rfl) <;> exact ⟨_, rfl⟩
  · rintro ⟨c, h⟩
    rw [Condition.ofCode?_eq_some h]
    cases c <;> simp [Condition.code]

/-! ### The value stage as a whole -/

/-- What the value stage reads: every field of `d` is what its bytes in `r` stand for, its source set is not empty, and it
captures only where it reports (R17). -/
structure RawDefinition.Reads (r : RawDefinition) (d : Definition) : Prop where
  label : r.label = d.label
  sources : sourceSet? r.sources = some d.sources
  spanFlag : presence? r.spanFlag = some ()
  skipFlag : presence? r.skipFlag = some ()
  gapLimit : gapLimit? r.gapLimit = some d.gapLimit
  spanLimit : spanLimit? r.span = some d.spanLimit
  policy : policy? r.policy r.holdoff = some d.policy
  condition : Condition.ofCode? r.condition = some d.condition
  consume : yesNo? r.consume = some d.consume
  oneShot : yesNo? r.oneShot = some d.oneShot
  report : yesNo? r.report = some d.report
  capture : yesNo? r.capture = some d.capture
  route : outputSet? r.route = some d.route
  steps : (r.steps.map fun p => { value := p.1, mask := p.2 }) = d.steps
  skip : (r.skip.map fun p => { value := p.1, mask := p.2 }) = d.skip
  someSource : d.sources ≠ 0
  captureReports : d.capture = true → d.report = true

theorem RawDefinition.check_eq_some_iff (r : RawDefinition) (d : Definition) : r.check = some d ↔ r.Reads d := by
  simp only [RawDefinition.check, Option.bind_eq_bind, Option.bind_eq_some_iff]
  constructor
  · rintro ⟨sources, hsources, _, hspanFlag, _, hskipFlag, gapLimit, hgap, spanLimit, hspan, policy, hpolicy,
      condition, hcondition, consume, hconsume, oneShot, honeShot, report, hreport, capture, hcapture, route, hroute, h⟩
    obtain ⟨hno, e⟩ := Option.ite_none_left_eq_some.1 h
    cases e
    exact ⟨rfl, hsources, hspanFlag, hskipFlag, hgap, hspan, hpolicy, hcondition, hconsume, honeShot, hreport, hcapture,
      hroute, rfl, rfl, fun h0 => hno (.inl h0), fun hc => by simpa [hc] using fun hr => hno (.inr ⟨hc, hr⟩)⟩
  · rintro ⟨hlabel, hsources, hspanFlag, hskipFlag, hgap, hspan, hpolicy, hcondition, hconsume, honeShot, hreport, hcapture,
      hroute, hsteps, hskip, hsome, hreports⟩
    refine ⟨_, hsources, _, hspanFlag, _, hskipFlag, _, hgap, _, hspan, _, hpolicy, _, hcondition, _, hconsume, _, honeShot,
      _, hreport, _, hcapture, _, hroute, Option.ite_none_left_eq_some.2 ⟨?_, ?_⟩⟩
    · rintro (h0 | ⟨hc, hr⟩)
      · exact hsome h0
      · simp [hreports hc] at hr
    · rw [hlabel, hsteps, hskip]

/-- A definition with none of the faults that R17 lists, the index apart. -/
def RawDefinition.FieldsInRange (raw : RawDefinition) : Prop :=
  (raw.sources ≠ 0 ∧ raw.sources.getLsbD 7 = false) ∧
    (raw.spanFlag = 0 ∨ raw.spanFlag = 1) ∧ (raw.skipFlag = 0 ∨ raw.skipFlag = 1) ∧
    (1 ≤ raw.gapLimit.toNat ∧ raw.gapLimit.toNat ≤ 60000) ∧
    (∀ w ∈ raw.span, 1 ≤ w.toNat ∧ w.toNat ≤ 600000) ∧
    ((raw.policy = 0x00 ∧ raw.holdoff = 0) ∨
      (raw.policy = 0x01 ∧ 1 ≤ raw.holdoff.toNat ∧ raw.holdoff.toNat ≤ 60000)) ∧
    (raw.condition = 0x00 ∨ raw.condition = 0x01 ∨ raw.condition = 0x02) ∧
    (raw.consume = 0 ∨ raw.consume = 1) ∧ (raw.oneShot = 0 ∨ raw.oneShot = 1) ∧ (raw.report = 0 ∨ raw.report = 1) ∧
    (raw.capture = 0 ∨ raw.capture = 1) ∧ ¬(raw.capture = 1 ∧ raw.report = 0) ∧
    (∀ b : Nat, 4 ≤ b → raw.route.getLsbD b = false)

theorem RawDefinition.Reads.fieldsInRange {r : RawDefinition} {d : Definition} (h : r.Reads d) : r.FieldsInRange := by
  obtain ⟨hgapRange, hgap⟩ := (gapLimit?_eq_some_iff _ _).1 h.gapLimit
  obtain ⟨hspanRange, hspan⟩ := (spanLimit?_eq_some_iff _ _).1 h.spanLimit
  refine ⟨⟨fun h0 => h.someSource ((sourceSet?_zero h.sources).2 h0), (sourceSet?_iff _).2 ⟨_, h.sources⟩⟩,
    (presence?_iff _).1 h.spanFlag, (presence?_iff _).1 h.skipFlag, hgap ▸ hgapRange,
    fun w hw => hspanRange w.toNat (hspan ▸ Option.mem_map_of_mem _ hw), (policy?_iff _ _).2 ⟨_, h.policy⟩,
    (Condition.ofCode?_iff _).2 ⟨_, h.condition⟩, (yesNo?_iff _).2 ⟨_, h.consume⟩, (yesNo?_iff _).2 ⟨_, h.oneShot⟩,
    (yesNo?_iff _).2 ⟨_, h.report⟩, (yesNo?_iff _).2 ⟨_, h.capture⟩, ?_, (outputSet?_iff _).2 ⟨_, h.route⟩⟩
  rintro ⟨hcapture, hreport⟩
  have captures : d.capture = true := by
    have := h.capture
    rw [hcapture] at this
    exact (Option.some.inj this).symm
  have silent : d.report = false := by
    have := h.report
    rw [hreport] at this
    exact (Option.some.inj this).symm
  exact absurd (h.captureReports captures) (by simp [silent])

theorem RawDefinition.FieldsInRange.exists_reads {r : RawDefinition} (h : r.FieldsInRange) : ∃ d, r.Reads d := by
  obtain ⟨⟨hsome, hsources⟩, hspanFlag, hskipFlag, hgap, hspan, hpolicy, hcondition, hconsume, honeShot, hreport, hcapture,
    hno, hroute⟩ := h
  obtain ⟨sources, hsources⟩ := (sourceSet?_iff _).1 hsources
  obtain ⟨policy, hpolicy⟩ := (policy?_iff _ _).1 hpolicy
  obtain ⟨condition, hcondition⟩ := (Condition.ofCode?_iff _).1 hcondition
  obtain ⟨consume, hconsume⟩ := (yesNo?_iff _).1 hconsume
  obtain ⟨oneShot, honeShot⟩ := (yesNo?_iff _).1 honeShot
  obtain ⟨report, hreport⟩ := (yesNo?_iff _).1 hreport
  obtain ⟨capture, hcapture⟩ := (yesNo?_iff _).1 hcapture
  obtain ⟨route, hroute⟩ := (outputSet?_iff _).1 hroute
  exact
    ⟨{ label := r.label, sources, steps := r.steps.map fun p => { value := p.1, mask := p.2 }
       skip := r.skip.map fun p => { value := p.1, mask := p.2 }, gapLimit := r.gapLimit.toNat
       spanLimit := r.span.map BitVec.toNat, policy, condition, consume, oneShot, report, capture, route },
      { label := rfl
        sources := hsources
        spanFlag := (presence?_iff _).2 hspanFlag
        skipFlag := (presence?_iff _).2 hskipFlag
        gapLimit := (gapLimit?_eq_some_iff _ _).2 ⟨hgap, rfl⟩
        spanLimit := (spanLimit?_eq_some_iff _ _).2 ⟨by simpa using hspan, rfl⟩
        policy := hpolicy
        condition := hcondition
        consume := hconsume
        oneShot := honeShot
        report := hreport
        capture := hcapture
        route := hroute
        steps := rfl
        skip := rfl
        someSource := fun h0 => hsome ((sourceSet?_zero hsources).1 h0)
        captureReports := by
          rintro rfl
          cases report with
          | true => rfl
          | false => exact absurd ⟨(yesNo?_back hcapture).symm, (yesNo?_back hreport).symm⟩ hno }⟩

/-- What DEFINE_PATTERN reads, with a step count in range, is a definition in range (section 1.2). -/
theorem RawDefinition.Reads.ok {r : RawDefinition} {d : Definition} (h : r.Reads d) (hlo : 1 ≤ r.steps.length)
    (hhi : r.steps.length ≤ 12) : d.Ok := by
  have hlen : d.steps.length = r.steps.length := by rw [← h.steps, List.length_map]
  obtain ⟨hgapRange, -⟩ := (gapLimit?_eq_some_iff _ _).1 h.gapLimit
  exact ⟨hlen ▸ hlo, hlen ▸ hhi, h.someSource, hgapRange.1, hgapRange.2, ((spanLimit?_eq_some_iff _ _).1 h.spanLimit).1,
    (policy?_back h.policy).1, h.captureReports⟩

/-- A presence flag of 0 or 1, with its field when present, is the optional field (R184). -/
theorem optField_of_flag {α β : Type} (enc : β → List Byte) (f : α → β) {flag : Byte} {x : Option α}
    (hflag : presence? flag = some ()) (hx : flag = 0 ↔ x = none) :
    optField enc (x.map f) = flag :: (x.map fun a => enc (f a)).getD [] := by
  cases x with
  | none =>
    rw [hx.2 rfl]
    rfl
  | some a =>
    have : flag = 1 := ((presence?_iff _).1 hflag).resolve_left fun h0 => nomatch hx.1 h0
    rw [this]
    rfl

/-- The payload is the index and the bytes of the definition it was read as. -/
theorem RawDefinition.Reads.payload_eq {r : RawDefinition} {d : Definition} {payload : List Byte} (h : r.Reads d)
    (hp : RawDefinition.parse payload = some r) : payload = r.index :: d.bytes := by
  obtain ⟨hpay, -, -, hspanFlag, hskipFlag⟩ := RawDefinition.parse_spec hp
  obtain ⟨-, hgap⟩ := (gapLimit?_eq_some_iff _ _).1 h.gapLimit
  obtain ⟨-, hspan⟩ := (spanLimit?_eq_some_iff _ _).1 h.spanLimit
  have hspanField := optField_of_flag nat4 BitVec.toNat h.spanFlag hspanFlag
  have hskipField := optField_of_flag PatternStep.bytes (fun p => { value := p.1, mask := p.2 }) h.skipFlag hskipFlag
  rw [hspan] at hspanField
  rw [h.skip] at hskipField
  rw [hpay, Definition.bytes, hspanField, hskipField, (policy?_back h.policy).2, ← h.label, ← hgap, ← h.steps,
    nat2_toNat, sourceSet?_back h.sources, outputSet?_back h.route, yesNo?_back h.consume, yesNo?_back h.oneShot,
    yesNo?_back h.report, yesNo?_back h.capture, ← Condition.ofCode?_eq_some h.condition]
  cases r.span <;> cases r.skip <;> simp [nat4_toNat, PatternStep.bytes, List.flatMap_map]

/-! ### DEFINE_PATTERN at the pattern table -/

/-- A length that the length stage does not accept (R16). -/
theorem answerOf_definePattern_of_length {payload : List Byte} (h : RawDefinition.parse payload = none) (s : State) :
    answerOf .definePattern payload s = .refuse .badLength := by
  simp only [answerOf, answerDefinePattern, h]

/-- A listed fault, the index among them (R17). -/
theorem answerOf_definePattern_of_fault {payload : List Byte} {raw : RawDefinition}
    (h : RawDefinition.parse payload = some raw) (hf : ¬(raw.index.toNat ≤ 31 ∧ raw.FieldsInRange)) (s : State) :
    answerOf .definePattern payload s = .refuse .badValue := by
  simp only [answerOf, answerDefinePattern, h]
  split
  next p d hindex hcheck =>
    have inTable := index?_lt hindex
    exact absurd ⟨by omega, ((raw.check_eq_some_iff d).1 hcheck).fieldsInRange⟩ hf
  next => rfl

/-- A definition without a fault, for an entry that is not ARMED (R18). -/
theorem answerOf_definePattern_accepts {payload : List Byte} {raw : RawDefinition} {p : PatternId} {d : Definition} {s : State}
    (h : RawDefinition.parse payload = some raw) (hindex : index? 32 raw.index = some p) (hd : raw.Reads d)
    (hs : ∀ e ∈ s.patterns.get p, e.phase ≠ .armed) :
    answerOf .definePattern payload s =
      .accept (entryStateCode (s.patterns.get p) :: bytes2 (entryHits (s.patterns.get p)))
        ((s.setEntry p (some { phase := .stopped, definition := d, hits := 0 })).clearPatternHoldoffs p) := by
  simp only [answerOf, answerDefinePattern, h, hindex, (raw.check_eq_some_iff d).2 hd]
  split
  next => rfl
  next e he =>
    split
    next harmed => exact absurd harmed (hs e he)
    next => rfl
    next => rfl

/-! ### The obligations -/

/-- Settles O34: the step test bit by bit (`PatternStep.selects_iff`), and the steps at the end of the definition that
READ_PATTERN's reply carries. -/
theorem stepTest : Obligations.StepTest := by
  intro d k st v e
  refine ⟨fun h => ⟨?_, d.matchesStep_error k e⟩, fun h => ⟨?_, d.passesOver_error e⟩, fun raw h => ?_, ?_⟩
  · rw [Definition.matchesStep_value h, PatternStep.selects_iff]
  · rw [Definition.passesOver_value h, PatternStep.selects_iff]
  · exact ((raw.check_eq_some_iff d).1 h).steps.symm
  · intro s q p clear n hreach hentry
    obtain ⟨t, ht, hreplies⟩ := readPattern_reply hreach hentry clear
    refine ⟨t, _, 0x00 :: entryStateCode (some n) :: n.definition.headBytes,
      bytes2 n.hits ++ [yesNo (s.afterFrame.entryEffective n)], ht, hreplies, ?_, ?_⟩
    · simp only [List.length_cons, Definition.headBytes_length]
      omega
    · simp [Definition.bytes_eq_headBytes_append]

/-- Settles O36: the value stage accepts a definition exactly where no listed fault applies
(`RawDefinition.check_eq_some_iff` with `Reads.fieldsInRange` and `FieldsInRange.exists_reads`), and what it reads is the
definition that the payload spells (`Reads.payload_eq`). -/
theorem definitionChecks : Obligations.DefinitionChecks := by
  intro s q payload hreach hlen
  refine ⟨fun hparse => ?_, fun raw hparse => ⟨fun hfault => ?_, fun hfits => ?_⟩⟩
  · exact exec_refuses_frameDone rfl hreach hlen (answerOf_definePattern_of_length hparse s.afterFrame) rfl
  · exact exec_refuses_frameDone rfl hreach hlen (answerOf_definePattern_of_fault hparse hfault s.afterFrame) rfl
  · obtain ⟨hindex, hfields⟩ : raw.index.toNat ≤ 31 ∧ raw.FieldsInRange := hfits
    obtain ⟨d, hd⟩ := hfields.exists_reads
    obtain ⟨p, hp⟩ := Option.ne_none_iff_exists'.1 fun hnone => (index?_32_eq_none_iff _).1 hnone hindex
    obtain ⟨-, hlo, hhi, -, -⟩ := RawDefinition.parse_spec hparse
    refine ⟨p, d, hd.ok hlo hhi, by rw [index?_eq_some hp]; exact hd.payload_eq hparse, fun hidle => ?_⟩
    obtain ⟨t, ht, hans⟩ := exec_accepts (i := .definePattern q payload) rfl hreach hlen
      (answerOf_definePattern_accepts (s := s.afterFrame) hparse hp hd hidle) rfl rfl rfl
    exact ⟨t, ht, by rw [hans.patterns_eq]; exact Table.get_set_self ..⟩

/-- Settles O37: an entry that holds a definition is armed whatever its phase, and its phase before is in the reply. -/
theorem armPattern : Obligations.ArmPattern := by
  intro s q p hreach
  refine ⟨fun e hentry => ?_, fun hempty => ?_⟩
  · obtain ⟨t, ht, hans⟩ := exec_accepts (i := .armPattern q [indexByte p]) (k := .armPattern) rfl hreach (by simp)
      (answerOf_armPattern_of_entry (s := s.afterFrame) hentry) rfl rfl rfl
    exact ⟨t, s.afterFrame, ht, s.afterFrame_frameDone, hans⟩
  · exact exec_refuses_frameDone (k := .armPattern) rfl hreach (by simp)
      (answerOf_armPattern_of_empty (s := s.afterFrame) hempty) rfl

end Sys2Proof.Machine
end

section
/-! PROOFS. Identity (chapter 10): IDENTIFY's fixed reply (R177). -/
namespace Sys2Proof.Machine

/-- IDENTIFY at its block: the identity bytes are constants of the part, so nothing of the state is read or changed. -/
theorem answerOf_identify_nil (s : State) :
    answerOf .identify [] s = .accept [0x03, 0xA1, 0x07, 0x16, 0x42, 32, 12, 24, 64, 7, 8, 4, 32, 8] s := rfl

/-- Settles O13: the block accepts with the same items in every state (`answerOf_identify_nil`), and the state that it
hands on to the reply is the one the frame left (`State.afterFrame`). -/
theorem identify : Obligations.Identify := by
  intro s q hreach
  obtain ⟨t, ht, hans⟩ := exec_accepts (i := .identify q []) (k := .identify) rfl hreach (by simp)
    (answerOf_identify_nil s.afterFrame) rfl rfl rfl
  exact ⟨t, s.afterFrame, ht, s.afterFrame_frameDone, hans⟩

end Sys2Proof.Machine
end

section
/-! PROOFS. What a command can do: one inversion for the requests at their blocks (R151, check 7), one for the dispatch of a good
frame (R151), and one for every command; the invariants that every step keeps are each a walk through these. -/
namespace Sys2Proof.Machine

/-! ### What an accepted request does at the block that owns it -/

/-- The states that an accepted request can leave, block by block. -/
inductive State.Accepted (s : State) : Kind → State → Prop
  | unchanged (k : Kind) : s.Accepted k s
  | sessionOpened (window timeout : Nat) (hw : 1 ≤ window ∧ window ≤ 8) (ht : 20 ≤ timeout ∧ timeout ≤ 5000) :
      s.Accepted .openSession ({ s.closeSession .reopened with
        session := { (s.closeSession .reopened).session with
          number := nextSession s.session.number, opened := some (freshSession window timeout) } } : State).autoClear
  | sessionClosed : s.Accepted .closeSession (s.closeSession .requested)
  | noticesHeld : s.Accepted .holdNotices
      (s.updateSession fun o => { o with flow := .held, timer := none, resend := [] })
  | noticesReleased (h : s.flow = .held) : s.Accepted .releaseNotices
      (s.updateSession fun o =>
        { o with flow := .flowing, timer := if s.queue.sentCount ≠ 0 then some o.timeout else none })
  | acknowledged (n : Half) (gone rest : List Record) (h : ackSplit n s.queue.records = some (gone, rest)) :
      s.Accepted .ackEvents { gone.foldl State.recordLeaves s with
        queue := ({ s.queue with records := rest } : EventQueue).judgeLost s.clock
        session := { s.session with
          opened := s.session.opened.map fun o =>
            o.acknowledged (({ s.queue with records := rest } : EventQueue).judgeLost s.clock).sentCount } }
  | clockLoaded (w : Word) : s.Accepted .setClock { s with clock := w }
  | sourceSet (src : SourceId) (c : SourceConfig) (line : Option LineConfig)
      (hbusy : ¬((s.sources.get src).config.enable = true ∧ c.enable = true))
      (hline : ∀ i, serialOf? src = some i → line.isSome = true) :
      s.Accepted .setSource ((s.configureSource src c line).applySource src)
  | injected (src : SourceId) (es : List Symbol) (hne : es ≠ []) (htest : (s.sources.get src).state = .test)
      (hroom : (s.injectors.get src).queue.length + es.length ≤ 32) :
      s.Accepted .inject { s with
        injectors := s.injectors.set src ((s.injectors.get src).append es (s.sources.get src).config.spacing) }
  | injectCancelled (src : SourceId) : s.Accepted .cancelInject (s.endRun src .cancelled)
  | contactSet (k : ContactId) (cfg : ContactConfig)
      (h : cfg.debounce = 0 ∨ cfg.debounce = 5 ∨ cfg.debounce = 20 ∨ cfg.debounce = 50) :
      s.Accepted .setContact (s.configureContact k cfg)
  | patternDefined (p : PatternId) (d : Definition) (hd : d.Ok) (h : ∀ e ∈ s.patterns.get p, e.phase ≠ .armed) :
      s.Accepted .definePattern
        ((s.setEntry p (some { phase := .stopped, definition := d, hits := 0 })).clearPatternHoldoffs p)
  | patternArmed (p : PatternId) (e : Entry) (h : s.patterns.get p = some e) :
      s.Accepted .armPattern (s.setEntry p (some { e with phase := .armed }))
  | patternStopped (p : PatternId) (e : Entry) (h : s.patterns.get p = some e) :
      s.Accepted .stopPattern
        (((s.setEntry p (some { e with phase := .stopped })).releasePattern p).clearPatternHoldoffs p)
  | patternErased (p : PatternId) (h : ∀ e ∈ s.patterns.get p, e.phase ≠ .armed) :
      s.Accepted .erasePattern ((s.setEntry p none).clearPatternHoldoffs p)
  | hitsCleared (p : PatternId) (e : Entry) (h : s.patterns.get p = some e) :
      s.Accepted .readPattern (s.setEntry p (some { e with hits := 0 }))
  | flushed (set : BitVec 7) :
      s.Accepted .flushTrackers ((s.releaseTrackers fun t => set.getLsbD t.source.val).clearHoldoffsOn set)
  | wakeSet (w : OutputId) (cfg : WakeConfig) (h : cfg.width ≠ 0) :
      s.Accepted .setWake { s with wakes := s.wakes.set w { s.wakes.get w with config := cfg, pulse := none } }
  | wakesCleared (set : BitVec 4) :
      s.Accepted .clearWake { s with
        wakes := Table.tabulate fun w =>
          if set.getLsbD w.val = true then (s.wakes.get w).cleared else s.wakes.get w }

theorem debounce?_eq_some {b : Byte} {n : Nat} (h : debounce? b = some n) : n = 0 ∨ n = 5 ∨ n = 20 ∨ n = 50 := by
  obtain ⟨hb, e⟩ := Option.ite_none_right_eq_some.1 h
  cases e
  rcases hb with rfl | rfl | rfl | rfl <;> decide

theorem contactConfig?_debounce {p b sel : Byte} {cfg : ContactConfig} (h : contactConfig? p b sel = some cfg) :
    cfg.debounce = 0 ∨ cfg.debounce = 5 ∨ cfg.debounce = 20 ∨ cfg.debounce = 50 := by
  simp only [contactConfig?, Option.bind_eq_bind, Option.bind_eq_some_iff] at h
  obtain ⟨_, -, _, hd, _, -, e⟩ := h
  cases e
  exact debounce?_eq_some hd

theorem wakeConfig?_width {e m p w g a : Byte} {cfg : WakeConfig} (h : wakeConfig? e m p w g a = some cfg) :
    cfg.width ≠ 0 := by
  simp only [wakeConfig?, Option.bind_eq_bind, Option.bind_eq_some_iff] at h
  obtain ⟨_, -, _, -, _, -, _, -, _, -, e⟩ := h
  obtain ⟨hw, e⟩ := Option.ite_none_left_eq_some.1 e
  cases e
  exact hw

theorem RawSource.lineFor?_isSome {r : RawSource} {src : SourceId} {line : Option LineConfig}
    (h : r.lineFor? src = some line) {i : SerialId} (hi : serialOf? src = some i) : line.isSome = true := by
  simp only [RawSource.lineFor?, hi, Option.map_eq_some_iff] at h
  obtain ⟨l, -, rfl⟩ := h
  rfl

theorem injectionEntries?_length {line : Option LineConfig} {es : List (Byte × Byte)} {xs : List Symbol}
    (h : injectionEntries? line es = some xs) : xs.length = es.length := by
  induction es generalizing xs with
  | nil => cases h; rfl
  | cons e es ih =>
    unfold injectionEntries? at h
    split at h
    next x rest _ hrest =>
      obtain ⟨-, e⟩ := Option.ite_none_right_eq_some.1 h
      cases e
      simp [ih hrest]
    next => cases h

theorem parseInject_ne_nil {payload : List Byte} {b : Byte} {es : List (Byte × Byte)}
    (h : parseInject payload = some (b, es)) : es ≠ [] := by
  unfold parseInject at h
  split at h
  next n rest =>
    obtain ⟨hn, h⟩ := Option.ite_none_right_eq_some.1 h
    obtain ⟨ps, hps, e⟩ := Option.map_eq_some_iff.1 h
    cases e
    have := (pairs?_spec _ _ _ hps).1
    rintro rfl
    simp at this
    omega
  next => cases h

/-- A definition that DEFINE_PATTERN accepts is in range (R17). -/
theorem RawDefinition.check_ok {payload : List Byte} {raw : RawDefinition} {d : Definition}
    (hp : RawDefinition.parse payload = some raw) (hd : raw.check = some d) : d.Ok := by
  obtain ⟨-, hlo, hhi, -, -⟩ := RawDefinition.parse_spec hp
  exact ((raw.check_eq_some_iff d).1 hd).ok hlo hhi

/-- Every accepted request does one of the things that `State.Accepted` lists. -/
theorem answerOf_accepted {k : Kind} {payload items : List Byte} {s s' : State}
    (h : answerOf k payload s = .accept items s') : s.Accepted k s' := by
  cases k <;> unfold answerOf at h <;> dsimp only at h
  case identify => unfold answerIdentify at h; split at h <;> cases h; exact .unchanged _
  case readStatus => unfold answerReadStatus at h; split at h <;> cases h; exact .unchanged _
  case restart => unfold answerRestart at h; split at h <;> cases h; exact .unchanged _
  case readContacts => unfold answerReadContacts at h; split at h <;> cases h; exact .unchanged _
  case readWake => unfold answerReadWake at h; split at h <;> cases h; exact .unchanged _
  case closeSession => unfold answerCloseSession at h; split at h <;> cases h; exact .sessionClosed
  case setClock => unfold answerSetClock at h; split at h <;> cases h; exact .clockLoaded _
  case readSource => unfold answerReadSource at h; (repeat' split at h) <;> cases h <;> exact .unchanged _
  case readTrackers => unfold answerReadTrackers at h; (repeat' split at h) <;> cases h; exact .unchanged _
  case flushTrackers => unfold answerFlushTrackers at h; (repeat' split at h) <;> cases h; exact .flushed _
  case clearWake => unfold answerClearWake at h; (repeat' split at h) <;> cases h; exact .wakesCleared _
  case openSession =>
    unfold answerOpenSession at h
    split at h
    · dsimp only at h
      split at h
      · cases h
      · cases h
        exact .sessionOpened _ _ (by omega) (by omega)
    · cases h
  case holdNotices =>
    unfold answerHoldNotices at h
    (repeat' split at h) <;> cases h
    · exact .unchanged _
    · exact .noticesHeld
  case releaseNotices =>
    unfold answerReleaseNotices at h
    split at h
    · split at h <;> cases h
      · exact .unchanged _
      · exact .noticesReleased ‹_›
    · cases h
  case ackEvents =>
    unfold answerAckEvents at h
    (repeat' split at h) <;> cases h
    exact .acknowledged _ _ _ ‹_›
  case setSource =>
    unfold answerSetSource at h
    (repeat' split at h) <;> try cases h
    dsimp only at h
    split at h <;> cases h
    exact .sourceSet _ _ _ ‹_› fun i hi => RawSource.lineFor?_isSome ‹_› hi
  case inject =>
    unfold answerInject at h
    split at h
    · cases h
    next srcByte raw hparse =>
      split at h
      · cases h
      next src _ =>
        split at h
        · cases h
        next es hes =>
          dsimp only at h
          (repeat' split at h) <;> cases h
          have hne : es ≠ [] := by
            rw [← List.length_pos_iff, injectionEntries?_length hes, List.length_pos_iff]
            exact parseInject_ne_nil hparse
          exact .injected src es hne (Decidable.not_not.1 ‹_›) (Nat.not_lt.1 ‹_›)
  case cancelInject =>
    unfold answerCancelInject at h
    (repeat' split at h) <;> try cases h
    dsimp only at h
    split at h <;> cases h
    · exact .unchanged _
    · exact .injectCancelled _
  case setContact =>
    unfold answerSetContact at h
    (repeat' split at h) <;> cases h
    exact .contactSet _ _ (contactConfig?_debounce ‹_›)
  case definePattern =>
    unfold answerDefinePattern at h
    (repeat' split at h) <;> try cases h
    next raw hparse _ _ p d _ hcheck =>
      have ok := RawDefinition.check_ok hparse hcheck
      dsimp only at h
      (repeat' split at h) <;> cases h
      all_goals exact .patternDefined _ _ ok (by simp_all)
  case armPattern =>
    unfold answerArmPattern at h
    (repeat' split at h) <;> cases h
    exact .patternArmed _ _ ‹_›
  case stopPattern =>
    unfold answerStopPattern at h
    (repeat' split at h) <;> try cases h
    · exact .unchanged _
    · exact .patternStopped _ _ ‹_›
    · exact .patternStopped _ _ ‹_›
  case erasePattern =>
    unfold answerErasePattern at h
    (repeat' split at h) <;> try cases h
    · exact .unchanged _
    · exact .patternErased _ (by simp_all)
    · exact .patternErased _ (by simp_all)
  case readPattern =>
    unfold answerReadPattern at h
    (repeat' split at h) <;> cases h
    · exact .unchanged _
    · exact .hitsCleared _ _ ‹_›
    · exact .unchanged _
  case setWake =>
    unfold answerSetWake at h
    (repeat' split at h) <;> cases h
    exact .wakeSet _ _ (wakeConfig?_width ‹_›)

/-! ### What the dispatch of a good frame does (R151) -/

/-- The states that the dispatch of a good frame can leave: the frame set aside, a refusal, the saved reply once more, or an
accepted request. -/
inductive State.Dispatched (s : State) (q k : Byte) (p : List Byte) (t : State) : Prop
  | setAside (hfull : 4 ≤ s.link.replies.length) (ht : t = { s with link := s.link.countError })
  | refused (hroom : s.link.replies.length < 4) (st : Status) (h : s.Answered t (statusReply q k st))
  | repeated (hroom : s.link.replies.length < 4) (r : Reply) (h : ∃ o ∈ s.session.opened, o.saved = some r)
      (hq : r.seq = q) (hk : r.kind = k) (ht : t = (s.enqueueReply r).arbitrate)
  | accepted (hroom : s.link.replies.length < 4) (hq : q ≠ 0) (kind : Kind) (hk : k = kind.code) (items : List Byte)
      (s' : State) (hs : kind.needsSession = true → s.session.opened ≠ none) (ha : answerOf kind p s = .accept items s')
      (h : s'.Answered t (okReply q kind items))

theorem State.repeated?_eq_some {s : State} {q : Byte} {k : Kind} {r : Reply} (h : s.repeated? q k = some r) :
    (∃ o ∈ s.session.opened, o.saved = some r) ∧ k ≠ .openSession ∧ r.seq = q ∧ r.kind = k.code := by
  unfold State.repeated? at h
  split at h
  · cases h
  next o ho =>
    split at h
    · cases h
    next r' hr =>
      obtain ⟨hc, e⟩ := Option.ite_none_right_eq_some.1 h
      cases e
      exact ⟨⟨o, ho, hr⟩, hc⟩

/-- Every dispatched frame does one of the things that `State.Dispatched` lists. -/
theorem State.dispatch_dispatched (s : State) (q k : Byte) (p : List Byte) (hp : s.power.qualified = .present) :
    s.Dispatched q k p (s.dispatch q k p) := by
  unfold State.dispatch
  split
  next hfull => exact .setAside hfull rfl
  next hfree =>
    have hroom : s.link.replies.length < 4 := Nat.not_le.1 hfree
    split
    next => exact .refused hroom _ (s.reply_answered _ hp)
    next hq =>
      split
      next => exact .refused hroom _ (s.reply_answered _ hp)
      next kind hkind =>
        obtain rfl := Kind.ofByte?_eq_some hkind
        split
        next => exact .refused hroom _ (s.reply_answered _ hp)
        next hopen =>
          split
          next r hr =>
            obtain ⟨ho, -, hseq, hkind⟩ := State.repeated?_eq_some hr
            exact .repeated hroom r ho hseq hkind rfl
          next =>
            unfold State.execute
            split
            next => exact .refused hroom _ (s.reply_answered _ hp)
            next items s' ha =>
              have hs' : s'.power = s.power := (answerOf_accept_keeps ha).2.1
              refine .accepted hroom hq kind rfl items s' (fun hneeds hclosed => ?_) ha
                (s'.reply_answered _ (by rw [hs', hp]))
              exact hopen ⟨by simp [SessionBlock.isOpen, hclosed], hneeds⟩

/-! ### What a command does -/

/-- The states that a command can leave. -/
inductive State.Effect (s : State) : Instr → State → Prop
  /-- The command comes when it has nothing to do. -/
  | idle (i : Instr) : s.Effect i s
  /-- A good frame, as a command or with its last byte. -/
  | dispatched (i : Instr) (q k : Byte) (p : List Byte) (hi : i.frame? = some (q, k, p) ∨ ∃ b, i = .linkByte b)
      (h : s.TakesFrames) (t : State) (ht : s.afterFrame.Dispatched q k p t) : s.Effect i t
  /-- A byte, a fault, a level of HRX or the inter-byte timer, short of a frame's end; a held link follows none of them. -/
  | lineHeard (i : Instr) (r : FrameReceiver) (e : Half) (b : ByteReceiver) (timer : Timer) (l : Level)
      (hok : s.link.receiver.ok = true → r.ok = true)
      (hheld : s.linkHeld = true → s.link.receiver = .hunting →
        r = .hunting ∧ e = s.link.errors ∧ b = s.link.byteReceiver ∧ timer = s.link.breakTimer) :
      s.Effect i { s with
        link := { s.link with receiver := r, errors := e, byteReceiver := b, breakTimer := timer }
        pins := { s.pins with hrx := l } }
  | linkReset (hheld : s.linkHeld = false) (hdue : s.link.breakTimer = some 0) :
      s.Effect .linkReset (({ s with link := s.link.cleared } : State).closeSession .linkReset)
  | noticeEnded (f : List Byte) (h : s.link.transmitter = .sendingNotice f) :
      s.Effect .transmitFrameEnd ({ s with link := { s.link with transmitter := .idle } } : State).arbitrate
  | replyEnded (f : List Byte) (h : s.link.transmitter = .sendingReply f) :
      s.Effect .transmitFrameEnd
        ({ s with link := { s.link with replies := s.link.replies.tail, transmitter := .idle } } : State).arbitrate
  | restarted (f : List Byte) (r : Reply) (h : s.link.transmitter = .sendingReply f) (hr : r ∈ s.link.replies)
      (hm : r.restart = true) : s.Effect .transmitFrameEnd (s.startUp s.link.rate .restart)
  | sessionLost (o : OpenSession) (ho : s.session.opened = some o) (hdue : o.timer = some 0) :
      s.Effect .retransmitExpiry (s.closeSession .noticeTimeout)
  | roundBegun (o : OpenSession) (ho : s.session.opened = some o) (hdue : o.timer = some 0) (hround : o.round < 8) :
      s.Effect .retransmitExpiry (s.updateSession fun o =>
        { o with timer := none, round := o.round + 1, resend := s.queue.sentNumbers }).arbitrate
  /-- A level of a source line, or a character that is not delivered. -/
  | lineSeen (i : Instr) (src : SerialId) (l : Level) (f : SerialId → Receiver → Receiver)
      (hf : f src (s.serials.get src).receiver = .stopped ↔ (s.serials.get src).receiver = .stopped) :
      s.Effect i ((s.setLine src l).setReceiver (sourceOf src) f)
  | characterDelivered (i : Instr) (src : SerialId) (l : Level) (sym : Symbol)
      (hr : (s.serials.get src).receiver ≠ .stopped) (hs : (s.sources.get (sourceOf src)).state = .listening) :
      s.Effect i ((((s.setLine src l).setReceiver (sourceOf src) fun _ _ => receiverAt l).deliver
        (sourceOf src) sym).arbitrate)
  | settled (src : SourceId) (hdue : (s.sources.get src).state = .settling 0) :
      s.Effect (.settleExpiry src) (s.enterListening src).arbitrate
  | contactPinned (k : ContactId) (l : Level) (hheld : s.resetHeld = true) :
      s.Effect (.contactPinChange k l) (s.setContactPin k l)
  | contactMoved (k : ContactId) (l : Level) (hheld : s.resetHeld = false) (hl : s.pins.contacts.get k ≠ l) :
      s.Effect (.contactPinChange k l) ((s.setContactPin k l).contactPin k l).arbitrate
  | debounceStopped (k : ContactId) (hdue : (s.contacts.get k).timer = some 0)
      (hpin : s.pins.contacts.get k = (s.contacts.get k).stable) :
      s.Effect (.debounceExpiry k) (s.setDebounce k none)
  | debounced (k : ContactId) (hdue : (s.contacts.get k).timer = some 0) :
      s.Effect (.debounceExpiry k) (s.stableChange k (s.pins.contacts.get k)).arbitrate
  | injectionDelivered (src : SourceId) (sym : Symbol) (rest : List Symbol)
      (hq : (s.injectors.get src).queue = sym :: rest) (hs : (s.sources.get src).state = .test)
      (hdue : (s.injectors.get src).timer = some 0) :
      s.Effect (.injectDelivery src)
        (((({ s with
          injectors := s.injectors.set src { s.injectors.get src with
            queue := rest, delivered := countUp (s.injectors.get src).delivered, timer := none } } : State).deliver
          src sym).afterDelivery src).arbitrate)
  | latchTaken (w : OutputId) :
      s.Effect (.latchRequest w) { s with
        latchRequests := s.latchRequests.erase w
        wakes := s.wakes.modify w fun x => x.request s.power.qualified }
  | pulseEnded (w : OutputId) (hdue : (s.wakes.get w).pulse = some 0) :
      s.Effect (.pulseExpiry w) { s with wakes := s.wakes.modify w fun x => { x with pulse := none } }
  | trackerExpired (i : Instr) (x : TrackerId) (t : Tracker) (ht : s.trackers.get x = some t) :
      s.Effect i (s.freeTrackerAt x)
  | holdoffEnded (p : PatternId) (src : SourceId) (hdue : (s.holdoffs.get p).get src = some 0) :
      s.Effect (.holdoffExpiry p src) { s with holdoffs := setHoldoff s.holdoffs p src none }
  | hostpwrPinned (l : Level) (hheld : s.resetHeld = true) :
      s.Effect (.hostpwrChange l) { s with pins := { s.pins with hostpwr := l } }
  | hostpwrMoved (l : Level) (hheld : s.resetHeld = false) :
      s.Effect (.hostpwrChange l) { s with
        pins := { s.pins with hostpwr := l }
        power := { s.power with
          timer := if powerOf l = s.power.qualified then none else some (s.power.timer.getD Config.qualificationTime) } }
  | qualificationStopped (hdue : s.power.timer = some 0) (h : powerOf s.pins.hostpwr = s.power.qualified) :
      s.Effect .qualifiedPowerChange { s with power := { s.power with timer := none } }
  | powerChanged (hdue : s.power.timer = some 0) (h : powerOf s.pins.hostpwr ≠ s.power.qualified) :
      s.Effect .qualifiedPowerChange (s.powerChange (powerOf s.pins.hostpwr))
  | ticked (hheld : s.resetHeld = false) : s.Effect .clockTick { s.tickTimers with clock := s.clock + 1 }
  | resetAsserted : s.Effect .resetAssert { s.resetBlocks s.link.rate with resetHeld := true }
  | poweredOn (lr1 lr0 : Level) :
      s.Effect (.powerOnSequence lr1 lr0)
        (({ s with pins := { s.pins with lr1 := lr1, lr0 := lr0 } } : State).startUp (strapRate lr1 lr0) .powerOn)

theorem timerDue_iff (t : Timer) : timerDue t = true ↔ t = some 0 := by simp [timerDue]

theorem Link.dropPartial_eq (l : Link) :
    l.dropPartial =
      { l with receiver := .hunting, errors := if l.receiver = .hunting then l.errors else countUp l.errors } := by
  unfold Link.dropPartial
  split
  next h => rw [if_pos h, ← h]
  next len got t h => rw [h, if_neg nofun]; rfl

/-- A command that stands for a good frame. -/
theorem frameCommand_effect {s t : State} {i : Instr} {q k : Byte} {p : List Byte} (hi : i.frame? = some (q, k, p))
    (h : exec i s = .next t) : s.Effect i t := by
  rw [exec_frame hi] at h
  by_cases hp : p.length ≤ 248
  · by_cases hf : s.TakesFrames
    · rw [frameCommand_dispatch hf hp] at h
      cases h
      exact .dispatched i q k p (.inl hi) hf _ (s.afterFrame.dispatch_dispatched q k p hf.1)
    · rw [frameCommand_not_taken hf hp] at h
      cases h
      exact .idle i
  · rw [frameCommand, if_neg hp] at h
    cases h

/-- A byte that joins a frame whose LEN has come (R145, R146). -/
theorem frameByte_effect {s : State} {b len : Byte} {got : List Byte} {timer : Nat} (h : s.TakesBytes)
    (hr : s.link.receiver = .receiving (some len) got timer) :
    s.Effect (.linkByte b) (s.byteEnds.frameByte len (got ++ [b])) := by
  have live : s.linkHeld = false := (s.linkHeld_false_iff).2 h.1
  unfold State.frameByte
  split
  next =>
    dsimp only
    split
    next =>
      split
      next q k p _ =>
        rw [s.byteEnds_hunting]
        exact .dispatched _ q k p (.inr ⟨b, rfl⟩) ⟨h.1, .inl h.2⟩ _ (s.afterFrame.dispatch_dispatched q k p h.1)
      next => exact .lineHeard _ .hunting s.link.errors _ _ _ (fun _ => rfl) (by simp [live])
    next => exact .lineHeard _ .hunting (countUp s.link.errors) _ _ _ (fun _ => rfl) (by simp [live])
  next hlen =>
    refine .lineHeard _ (.receiving (some len) (got ++ [b]) 20) s.link.errors _ _ _ (fun hok => ?_) (by simp [live])
    simp only [hr, FrameReceiver.ok, decide_eq_true_eq, List.length_append, List.length_singleton] at hok hlen ⊢
    omega

theorem execLinkByte_effect {s t : State} {b : Byte} (h : exec (.linkByte b) s = .next t) : s.Effect (.linkByte b) t := by
  change execLinkByte b s = .next t at h
  unfold execLinkByte at h
  split at h
  · cases h
    exact .idle _
  next htakes =>
    cases h
    have takes := (s.takesNoByte_false_iff).1 (by simpa using htakes)
    have live : s.linkHeld = false := (s.linkHeld_false_iff).2 takes.1
    unfold State.receiveByte
    split
    next hr =>
      replace hr : s.link.receiver = .hunting := hr
      split
      · exact .lineHeard _ (.receiving none [] 20) s.link.errors _ _ _ (fun _ => rfl) (by simp [live])
      · exact .lineHeard _ s.link.receiver s.link.errors _ _ _ id (by simp [live])
    next hr =>
      split
      next hlen =>
        exact .lineHeard _ (.receiving (some b) [] 20) s.link.errors _ _ _ (fun _ => by simp [FrameReceiver.ok, hlen])
          (by simp [live])
      next =>
        rw [Link.dropPartial_eq]
        exact .lineHeard _ .hunting _ _ _ _ (fun _ => rfl) (by simp [live])
    next hr => exact frameByte_effect takes hr

theorem execTransmitFrameEnd_effect {s t : State} (h : exec .transmitFrameEnd s = .next t) :
    s.Effect .transmitFrameEnd t := by
  change execTransmitFrameEnd s = .next t at h
  unfold execTransmitFrameEnd at h
  split at h
  next => cases h; exact .idle _
  next f hf => cases h; exact .noticeEnded f hf
  next f hf =>
    have ended := State.Effect.replyEnded f hf
    split at h
    next r rest hr =>
      split at h
      next hm => cases h; exact .restarted f r hf (by simp [hr]) hm
      next => cases h; simpa [hr] using ended
    next hr => cases h; simpa [hr] using ended

theorem execRetransmitExpiry_effect {s t : State} (h : exec .retransmitExpiry s = .next t) :
    s.Effect .retransmitExpiry t := by
  change execRetransmitExpiry s = .next t at h
  unfold execRetransmitExpiry at h
  split at h
  next => cases h; exact .idle _
  next o ho =>
    split at h
    next hdue =>
      rw [timerDue_iff] at hdue
      split at h
      next => cases h; exact .sessionLost o ho hdue
      next hround => cases h; exact .roundBegun o ho hdue (Nat.not_le.1 hround)
    next => cases h; exact .idle _

theorem receiverAt_ne_stopped (l : Level) : receiverAt l ≠ .stopped := by cases l <;> nofun

theorem Receiver.sees_stopped_iff (r : Receiver) (l : Level) : r.sees l = .stopped ↔ r = .stopped := by
  cases r <;> cases l <;> simp [Receiver.sees]

theorem Receiver.takes_stopped {r : Receiver} {st : SourceState} {d : Bool} (h : r.takes st = some d) : r ≠ .stopped := by
  rintro rfl
  cases h

theorem execSerialCharacter_effect {s t : State} {src : SerialId} {data : Byte} {parityBit stopBit : Level}
    (h : exec (.serialCharacter src data parityBit stopBit) s = .next t) :
    s.Effect (.serialCharacter src data parityBit stopBit) t := by
  change execSerialCharacter src data parityBit stopBit s = .next t at h
  unfold execSerialCharacter at h
  dsimp only at h
  split at h
  next => cases h; exact .lineSeen _ src stopBit _ (Receiver.sees_stopped_iff _ _)
  next discard htakes =>
    have running := Receiver.takes_stopped htakes
    split at h
    next hc => cases h; exact .characterDelivered _ src stopBit _ running hc.2
    next =>
      cases h
      exact .lineSeen _ src stopBit _ (iff_of_false (receiverAt_ne_stopped stopBit) running)

theorem execSourceLineLevelChange_effect {s t : State} {src : SerialId} {l : Level} {mid : Bool}
    (h : exec (.sourceLineLevelChange src l mid) s = .next t) : s.Effect (.sourceLineLevelChange src l mid) t := by
  change execSourceLineLevelChange src l mid s = .next t at h
  unfold execSourceLineLevelChange at h
  split at h
  next => cases h; exact .idle _
  next =>
    cases h
    refine .lineSeen _ src l _ ?_
    split
    next hr _ => rw [hr]; split <;> simp
    next => exact Receiver.sees_stopped_iff _ _

theorem execHrxLevelChange_effect {s t : State} {l : Level} {mid : Bool} (h : exec (.hrxLevelChange l mid) s = .next t) :
    s.Effect (.hrxLevelChange l mid) t := by
  change execHrxLevelChange l mid s = .next t at h
  unfold execHrxLevelChange at h
  split at h
  next => cases h; exact .idle _
  next =>
    dsimp only at h
    split at h
    next =>
      cases h
      exact .lineHeard _ s.link.receiver s.link.errors s.link.byteReceiver s.link.breakTimer l id (by simp)
    next live =>
      split at h
      all_goals
        cases h
        exact .lineHeard _ s.link.receiver s.link.errors _ _ _ id (fun held => absurd held live)

theorem SourceState.settleRemaining_eq_some {st : SourceState} {n : Nat} : st.settleRemaining = some n ↔ st = .settling n := by
  cases st <;> simp [SourceState.settleRemaining]

/-- Every command does one of the things that `State.Effect` lists. -/
theorem exec_effect {i : Instr} {s t : State} (h : exec i s = .next t) : s.Effect i t := by
  cases hf : i.frame? with
  | some f => exact frameCommand_effect hf h
  | none =>
    cases i <;> try exact absurd hf (Option.some_ne_none _)
    case linkByte b => exact execLinkByte_effect h
    case linkFramingFault =>
      change execLinkFramingFault s = .next t at h
      unfold execLinkFramingFault at h
      split at h
      next => cases h; exact .idle _
      next htakes =>
        have live : s.linkHeld = false := (s.linkHeld_false_iff).2 ((s.takesNoByte_false_iff).1 (by simpa using htakes)).1
        cases h
        rw [Link.dropPartial_eq]
        exact .lineHeard _ .hunting _ _ _ _ (fun _ => rfl) (by simp [live])
    case interByteTimeout =>
      change execInterByteTimeout s = .next t at h
      unfold execInterByteTimeout at h
      split at h
      next => cases h; exact .idle _
      next hr =>
        split at h
        next =>
          cases h
          rw [Link.dropPartial_eq]
          exact .lineHeard _ .hunting _ _ _ _ (fun _ => rfl) (by simp [hr])
        next => cases h; exact .idle _
    case linkReset =>
      change execLinkReset s = .next t at h
      unfold execLinkReset at h
      split at h
      next hc => cases h; exact .linkReset hc.2 (s.resetDue_iff.1 hc.1)
      next => cases h; exact .idle _
    case transmitFrameEnd => exact execTransmitFrameEnd_effect h
    case retransmitExpiry => exact execRetransmitExpiry_effect h
    case serialCharacter => exact execSerialCharacter_effect h
    case sourceLineLevelChange => exact execSourceLineLevelChange_effect h
    case hrxLevelChange => exact execHrxLevelChange_effect h
    case settleExpiry src =>
      change execSettleExpiry src s = .next t at h
      unfold execSettleExpiry at h
      split at h
      next hdue =>
        cases h
        exact .settled src (SourceState.settleRemaining_eq_some.1 ((timerDue_iff _).1 hdue))
      next => cases h; exact .idle _
    case contactPinChange k l =>
      change execContactPinChange k l s = .next t at h
      unfold execContactPinChange at h
      split at h
      next => cases h; exact .idle _
      next hl =>
        split at h
        next hheld => cases h; exact .contactPinned k l hheld
        next hheld => cases h; exact .contactMoved k l (by simpa using hheld) hl
    case debounceExpiry k =>
      change execDebounceExpiry k s = .next t at h
      unfold execDebounceExpiry at h
      split at h
      next hdue =>
        rw [timerDue_iff] at hdue
        split at h
        next hpin => cases h; exact .debounceStopped k hdue hpin
        next => cases h; exact .debounced k hdue
      next => cases h; exact .idle _
    case injectDelivery src =>
      change execInjectDelivery src s = .next t at h
      unfold execInjectDelivery at h
      dsimp only at h
      split at h
      next sym rest hq =>
        split at h
        next hc => cases h; exact .injectionDelivered src sym rest hq hc.1 ((timerDue_iff _).1 hc.2)
        next => cases h; exact .idle _
      next => cases h; exact .idle _
    case latchRequest w => cases h; exact .latchTaken w
    case pulseExpiry w =>
      change execPulseExpiry w s = .next t at h
      unfold execPulseExpiry at h
      split at h
      next hdue => cases h; exact .pulseEnded w ((timerDue_iff _).1 hdue)
      next => cases h; exact .idle _
    case gapDeadlineExpiry x =>
      change execGapDeadlineExpiry x s = .next t at h
      unfold execGapDeadlineExpiry at h
      (repeat' split at h) <;> cases h
      · exact .trackerExpired _ x _ ‹_›
      · exact .idle _
      · exact .idle _
    case spanDeadlineExpiry x =>
      change execSpanDeadlineExpiry x s = .next t at h
      unfold execSpanDeadlineExpiry at h
      (repeat' split at h) <;> cases h
      · exact .trackerExpired _ x _ ‹_›
      · exact .idle _
      · exact .idle _
    case holdoffExpiry p src =>
      change execHoldoffExpiry p src s = .next t at h
      unfold execHoldoffExpiry at h
      split at h
      next hdue => cases h; exact .holdoffEnded p src ((timerDue_iff _).1 hdue)
      next => cases h; exact .idle _
    case hostpwrChange l =>
      change execHostpwrChange l s = .next t at h
      unfold execHostpwrChange at h
      split at h
      next => cases h; exact .idle _
      next =>
        dsimp only at h
        split at h
        next hheld => cases h; exact .hostpwrPinned l hheld
        next hheld =>
          cases h
          have moved := State.Effect.hostpwrMoved (s := s) l (by simpa using hheld)
          cases htimer : s.power.timer <;> simpa only [htimer, Option.getD] using moved
    case qualifiedPowerChange =>
      change execQualifiedPowerChange s = .next t at h
      unfold execQualifiedPowerChange at h
      split at h
      next hdue =>
        rw [timerDue_iff] at hdue
        split at h
        next hp => cases h; exact .qualificationStopped hdue hp
        next hp => cases h; exact .powerChanged hdue hp
      next => cases h; exact .idle _
    case clockTick =>
      change execClockTick s = .next t at h
      unfold execClockTick at h
      split at h
      next => cases h; exact .idle _
      next hheld => cases h; exact .ticked (by simpa using hheld)
    case resetAssert => cases h; exact .resetAsserted
    case powerOnSequence lr1 lr0 => cases h; exact .poweredOn lr1 lr0

/-! ### One step (assumption 3) -/

/-- What every command keeps, every step keeps, where the commands that wait do not matter to it. -/
theorem step_keeps {P : State → Prop} (hpending : ∀ s rest, P s → P { s with pending := rest })
    (heffect : ∀ s i t, P s → s.Effect i t → P t) {s t : State} (hs : P s) (h : step s = .next t) : P t := by
  unfold step at h
  split at h
  next => cases h; exact hs
  next c rest _ => exact heffect _ c t (hpending s rest hs) (exec_effect h)

end Sys2Proof.Machine
end

section
/-! PROOFS. What the answering of a request, the arbiter and the dispatch of a frame leave of the state, and two claims about the
whole machine that need no more: the link rate holds (R141), and RESET low holds the POR values (R182). -/
namespace Sys2Proof.Machine

/-! ### The arbiter, an answer and a dispatch -/

theorem State.arbitrate_link (s : State) :
    s.arbitrate.link = { s.link with transmitter := s.arbitrate.link.transmitter } := by
  rcases s.arbitrate_spec with ⟨-, e⟩ | ⟨-, -, r, rest, -, e⟩ | ⟨-, -, -, n, s', -, e⟩ <;> rw [e]

theorem State.arbitrate_of_held {s : State} (h : s.power.qualified = .absent) : s.arbitrate = s := by
  simp [State.arbitrate, (s.linkHeld_iff).2 h]

/-- The arbiter changes the event queue, the link and the session alone (R154, R163). -/
theorem State.arbitrate_eq (s : State) :
    s.arbitrate = { s with queue := s.arbitrate.queue, link := s.arbitrate.link, session := s.arbitrate.session } := by
  rcases s.arbitrate_spec with ⟨-, e⟩ | ⟨-, -, r, rest, -, e⟩ | ⟨-, -, -, n, s', hn, e⟩
  · rw [e]
  · rw [e]
  · rw [e, State.chooseNotice_frame hn]

/-- What a dispatched frame leaves as it was, whatever it does: host power, reset, pins and the commands that wait. -/
theorem State.Dispatched.frame {s t : State} {q k : Byte} {p : List Byte} (h : s.Dispatched q k p t) :
    t.power = s.power ∧ t.resetHeld = s.resetHeld ∧ t.pins = s.pins ∧ t.pending = s.pending ∧
      t.link = { s.link with
        errors := t.link.errors, replies := t.link.replies, transmitter := t.link.transmitter } := by
  cases h with
  | setAside hfull ht => simp [ht, Link.countError]
  | refused hroom st h => rw [h.rest, h.link]; simp
  | repeated hroom r ho hq hk ht => rw [ht, State.arbitrate_link]; simp
  | accepted hroom hq kind hk items s' hs ha h =>
    obtain ⟨hlink, hpower, hreset, hpins, -, hpending⟩ := answerOf_accept_keeps ha
    rw [h.rest, h.link]
    simp [hlink, hpower, hreset, hpins, hpending]

/-! ### The link rate (R141) -/

/-- Settles O59: no effect of a command but the power-on sequence writes the rate; a restart gives the link its own rate
back. -/
theorem rateHolds : Obligations.RateHolds := by
  intro s t i hi h
  cases exec_effect h with
  | idle => rfl
  | dispatched _ q k p _ _ _ ht =>
    obtain ⟨-, -, -, -, hlink⟩ := ht.frame
    rw [hlink]
    rfl
  | lineHeard => rfl
  | linkReset => simp [Link.cleared, Link.dropPartial_eq]
  | noticeEnded => rw [State.arbitrate_link]
  | replyEnded => rw [State.arbitrate_link]
  | restarted => rfl
  | poweredOn lr1 lr0 => exact absurd rfl (hi lr1 lr0)
  | powerChanged =>
    unfold State.powerChange State.linkFollows
    split <;> simp [Link.cleared, Link.dropPartial_eq]
  | sessionLost | contactPinned | latchTaken | pulseEnded | trackerExpired | holdoffEnded | hostpwrPinned | hostpwrMoved
  | qualificationStopped | ticked | resetAsserted | lineSeen | debounceStopped => simp [State.tickTimers, State.resetBlocks]
  | roundBegun | characterDelivered | settled | contactMoved | debounced | injectionDelivered =>
    rw [State.arbitrate_link]
    simp

/-! ### RESET low (R182) -/

/-- What is not held in reset claims nothing of its blocks. -/
theorem State.ResetOk.of_not_held {s : State} (h : s.resetHeld = false) : s.ResetOk := by simp [State.ResetOk, h]

/-- A command in a part that is not held in reset leaves it so, but for the fall of RESET. -/
theorem State.Effect.resetHeld_false {s t : State} {i : Instr} (h : s.Effect i t) (hs : s.resetHeld = false) :
    t.resetHeld = false ∨ t = { s.resetBlocks s.link.rate with resetHeld := true } := by
  cases h
  case resetAsserted => exact .inr rfl
  all_goals left
  case idle => exact hs
  case dispatched ht =>
    obtain ⟨-, hreset, -⟩ := ht.frame
    rw [hreset]
    exact hs
  case restarted => rfl
  case poweredOn => rfl
  all_goals simpa [State.tickTimers] using hs

/-- The blocks of a part that is held in reset, one by one (R182). -/
theorem State.ResetOk.blocks {s : State} (h : s.ResetOk) (hs : s.resetHeld = true) :
    s.power = { qualified := .absent, timer := none } ∧ s.link = { State.reset.link with rate := s.link.rate } ∧
      s.session.opened = none ∧ s.latchRequests = [] ∧ (∀ src, s.sources.get src = resetSource) ∧
      (∀ i, s.serials.get i = resetSerial) ∧ (∀ k, (s.contacts.get k).timer = none) ∧
      (∀ w, s.wakes.get w = resetWake) ∧ (∀ x, s.trackers.get x = none) ∧
      ∀ p src, (s.holdoffs.get p).get src = none := by
  rw [h hs]
  simp [State.reset, resetSession, resetContact]

/-- The pins are not the part's: at any levels the blocks hold their POR values (R182). -/
theorem State.ResetOk.withPins {s : State} (h : s.ResetOk) (p : Pins) : State.ResetOk { s with pins := p } := fun hs =>
  congrArg (fun u : State => { u with pins := p }) (h hs)

/-- The fall of RESET takes every block to its POR values (R182). -/
theorem State.resetOk_asserted (s : State) : State.ResetOk { s.resetBlocks s.link.rate with resetHeld := true } := by
  intro _
  simp [State.resetBlocks, Table.map, Function.comp_def, resetContact]

/-- While RESET is low no command but the rise of RESET changes more than a pin (R182). -/
theorem State.Effect.resetOk {s t : State} {i : Instr} (h : s.ResetOk) (ht : s.Effect i t) : t.ResetOk := by
  cases hs : s.resetHeld with
  | false =>
    rcases ht.resetHeld_false hs with live | rfl
    · exact .of_not_held live
    · exact s.resetOk_asserted
  | true =>
    obtain ⟨hpower, hlink, hsession, hlatch, hsources, hserials, hcontacts, hwakes, htrackers, hholdoffs⟩ := h.blocks hs
    have held : s.linkHeld = true := by simp [State.linkHeld, hpower]
    have quiet : s.link.transmitter = .idle := by rw [hlink]; rfl
    cases ht with
    | idle => exact h
    | lineHeard _ r e b timer l _ hheld =>
      have hunting : s.link.receiver = .hunting := by rw [hlink]; rfl
      obtain ⟨hr, rfl, rfl, rfl⟩ := hheld held hunting
      rw [hr, ← hunting]
      exact h.withPins _
    | lineSeen _ src l f hf =>
      have stopped : f src (s.serials.get src).receiver = (s.serials.get src).receiver := by
        rw [hserials] at hf ⊢
        exact hf.2 rfl
      rw [State.setReceiver_serial]
      simp only [State.setLine_serials]
      rw [stopped, Table.set_get_self]
      exact h.withPins _
    | latchTaken w =>
      have off : (s.wakes.modify w fun x => x.request s.power.qualified) = s.wakes := by
        have : (s.wakes.get w).request s.power.qualified = s.wakes.get w := by rw [hwakes]; simp [Wake.request, resetWake]
        rw [Table.modify, this, Table.set_get_self]
      rw [off, show s.latchRequests.erase w = s.latchRequests by rw [hlatch]; rfl]
      exact h
    | contactPinned k l => exact h.withPins _
    | hostpwrPinned l => exact h.withPins _
    | resetAsserted => exact s.resetOk_asserted
    | poweredOn => exact .of_not_held rfl
    | dispatched _ _ _ _ _ hf => exact absurd hf.1 (by rw [hpower]; nofun)
    | linkReset hlive => exact absurd held (by rw [hlive]; nofun)
    | noticeEnded f hf => exact absurd hf (by rw [quiet]; nofun)
    | replyEnded f hf => exact absurd hf (by rw [quiet]; nofun)
    | restarted f r hf => exact absurd hf (by rw [quiet]; nofun)
    | sessionLost o ho => exact absurd ho (by rw [hsession]; nofun)
    | roundBegun o ho => exact absurd ho (by rw [hsession]; nofun)
    | characterDelivered _ src l sym hr => exact absurd (by rw [hserials]; rfl) hr
    | settled src hdue => exact absurd hdue (by rw [hsources]; nofun)
    | contactMoved k l hlive => exact absurd hs (by rw [hlive]; nofun)
    | debounceStopped k hdue => exact absurd hdue (by rw [hcontacts]; nofun)
    | debounced k hdue => exact absurd hdue (by rw [hcontacts]; nofun)
    | injectionDelivered src sym rest _ htest => exact absurd htest (by rw [hsources]; nofun)
    | pulseEnded w hdue => exact absurd hdue (by rw [hwakes]; nofun)
    | trackerExpired _ x t hused => exact absurd hused (by rw [htrackers]; nofun)
    | holdoffEnded p src hdue => exact absurd hdue (by rw [hholdoffs]; nofun)
    | hostpwrMoved l hlive => exact absurd hs (by rw [hlive]; nofun)
    | qualificationStopped hdue => exact absurd hdue (by rw [hpower]; nofun)
    | powerChanged hdue => exact absurd hdue (by rw [hpower]; nofun)
    | ticked hlive => exact absurd hs (by rw [hlive]; nofun)

/-- Settles O58: in a part held in reset every block is at rest, so no command finds anything to do
(`State.Effect.resetOk`). -/
theorem resetKept : Obligations.ResetKept := fun _ _ hs h =>
  step_keeps (fun _ rest hs hheld => congrArg (fun u : State => { u with pending := rest }) (hs hheld))
    (fun _ _ _ hs ht => ht.resetOk hs) hs h

end Sys2Proof.Machine
end

section
/-! PROOFS. The event queue, the report flags and the session block: every command is a chain of elementary changes of these
(`State.Effect.evolves`), and each of their invariants is kept by every elementary change. -/
namespace Sys2Proof.Machine

/-! ### Elementary changes -/

/-- The event queue, the session block and the report flags of a part. -/
structure EventView where
  queue : EventQueue
  session : SessionBlock
  errorFlag : SerialId → Bool
  shortFlag : SourceId → Bool

def State.view (s : State) : EventView :=
  { queue := s.queue, session := s.session, errorFlag := fun i => (s.serials.get i).errorFlag,
    shortFlag := fun src => s.shortFlags.get src }

/-- The records that are offered with no flag of their own (R60, R37) and no counter (R108). -/
def RecordBody.isPlain : RecordBody → Bool
  | .lineError _ _ => false
  | .trackerShort _ _ => false
  | .lost _ => false
  | _ => true

/-- The elementary changes. `A` says whether the command at hand may be an acknowledgement, `R` whether it may be a reset. -/
inductive EventStep (A R : Prop) (v : EventView) : EventView → Prop
  | offered (clock : Word) (b : RecordBody) (hb : b.isPlain = true) :
      EventStep A R v { v with queue := v.queue.offer clock b }
  | errorReported (clock : Word) (i : SerialId) (k : ErrorKind) (h : v.errorFlag i = false) :
      EventStep A R v { v with
        queue := v.queue.offer clock (.lineError i k)
        errorFlag := fun j => if i = j then v.queue.accepts else v.errorFlag j }
  | shortReported (clock : Word) (src : SourceId) (p : PatternId) (h : v.shortFlag src = false) :
      EventStep A R v { v with
        queue := v.queue.offer clock (.trackerShort src p)
        shortFlag := fun c => if src = c then v.queue.accepts else v.shortFlag c }
  | resent (o : OpenSession) (n : Half) (rest : List Half) (ho : v.session.opened = some o) (hr : o.resend = n :: rest) :
      EventStep A R v { v with
        session := { v.session with opened := some { o with resend := rest, timer := o.timerAtHandover } } }
  | sent (o : OpenSession) (r : Record) (rs : List Record) (ho : v.session.opened = some o) (hr : o.resend = [])
      (hf : o.flow = .flowing) (hw : v.queue.sentCount < o.window)
      (hm : markOldestWaiting v.queue.records = some (r, rs)) :
      EventStep A R v { v with
        queue := { v.queue with records := rs }
        session := { v.session with opened := some { o with timer := o.timerAtHandover } } }
  | saved (r : Reply) : EventStep A R v { v with session := v.session.saving r }
  | closed (reason : CloseReason) :
      EventStep A R v { v with
        queue := v.queue.allWaiting, session := { v.session with opened := none, lastClose := reason } }
  | opened (window timeout : Nat) (hw : 1 ≤ window ∧ window ≤ 8) (ht : 20 ≤ timeout ∧ timeout ≤ 5000)
      (h : v.session.opened = none) :
      EventStep A R v { v with
        session := { v.session with
          number := nextSession v.session.number, opened := some (freshSession window timeout) } }
  | held (o : OpenSession) (ho : v.session.opened = some o) :
      EventStep A R v { v with
        session := { v.session with opened := some { o with flow := .held, timer := none, resend := [] } } }
  | released (o : OpenSession) (ho : v.session.opened = some o) (hf : o.flow = .held) :
      EventStep A R v { v with
        session := { v.session with
          opened := some { o with
            flow := .flowing, timer := if v.queue.sentCount ≠ 0 then some o.timeout else none } } }
  | roundBegun (o : OpenSession) (ho : v.session.opened = some o) (ht : o.timer = some 0) (hr : o.round < 8) :
      EventStep A R v { v with
        session := { v.session with
          opened := some { o with timer := none, round := o.round + 1, resend := v.queue.sentNumbers } } }
  | ticked (o : OpenSession) (ho : v.session.opened = some o) :
      EventStep A R v { v with session := { v.session with opened := some { o with timer := tickTimer o.timer } } }
  | acknowledged (hA : A) (n : Half) (gone rest : List Record) (h : ackSplit n v.queue.records = some (gone, rest))
      (clock : Word) :
      EventStep A R v
        { queue := ({ v.queue with records := rest } : EventQueue).judgeLost clock
          session := { v.session with
            opened := v.session.opened.map fun o =>
              o.acknowledged (({ v.queue with records := rest } : EventQueue).judgeLost clock).sentCount }
          errorFlag := fun i => if gone.any (Record.isLineErrorOf i) = true then false else v.errorFlag i
          shortFlag := fun src => if gone.any (Record.isShortOf src) = true then false else v.shortFlag src }
  | reset (hR : R) :
      EventStep A R v
        { queue := { records := [], nextNumber := 0, lost := 0 }, session := resetSession, errorFlag := fun _ => false,
          shortFlag := fun _ => false }

/-- Elementary changes, one after the other. -/
inductive EventSteps (A R : Prop) (v : EventView) : EventView → Prop
  | refl : EventSteps A R v v
  | tail {u w : EventView} : EventSteps A R v u → EventStep A R u w → EventSteps A R v w

theorem EventSteps.trans {A R : Prop} {v u w : EventView} (h : EventSteps A R v u) (h' : EventSteps A R u w) :
    EventSteps A R v w := by
  induction h' with
  | refl => exact h
  | tail _ step ih => exact ih.tail step

/-- A chain of elementary changes from one state to another. -/
abbrev State.Evolves (A R : Prop) (s t : State) : Prop := EventSteps A R s.view t.view

variable {A R : Prop}

theorem State.Evolves.of_eq {s t : State} (hq : t.queue = s.queue) (hs : t.session = s.session)
    (he : ∀ i, (t.serials.get i).errorFlag = (s.serials.get i).errorFlag) (hf : t.shortFlags = s.shortFlags) :
    s.Evolves A R t := by
  have : t.view = s.view := by simp [State.view, hq, hs, he, hf]
  rw [State.Evolves, this]
  exact .refl

theorem State.Evolves.of_frame {s t : State} (hq : t.queue = s.queue) (hs : t.session = s.session)
    (he : t.serials = s.serials) (hf : t.shortFlags = s.shortFlags) : s.Evolves A R t :=
  .of_eq hq hs (fun i => by rw [he]) hf

theorem State.Evolves.trans {s u t : State} (h : s.Evolves A R u) (h' : u.Evolves A R t) : s.Evolves A R t :=
  EventSteps.trans h h'

/-- The last link of a chain first, for an operation whose first state is named by it alone. -/
theorem State.Evolves.after {s u t : State} (h' : u.Evolves A R t) (h : s.Evolves A R u) : s.Evolves A R t := h.trans h'

theorem State.Evolves.refl (s : State) : s.Evolves A R s := EventSteps.refl

theorem State.Evolves.of_step {s t : State} {v : EventView} (h : EventStep A R s.view v) (ht : v = t.view) :
    s.Evolves A R t := by
  subst ht
  exact EventSteps.refl.tail h

theorem State.evolves_foldl {β : Type} (f : State → β → State) (h : ∀ (s : State) (b : β), s.Evolves A R (f s b)) (l : List β) :
    ∀ s : State, s.Evolves A R (l.foldl f s) := by
  induction l with
  | nil => exact fun s => .refl s
  | cons b l ih => exact fun s => (h s b).trans (ih _)

/-! ### Offers and reports -/

theorem State.evolves_offer (s : State) {b : RecordBody} (hb : b.isPlain = true) : s.Evolves A R (s.offer b) :=
  .of_step (.offered s.clock b hb) rfl

theorem State.evolves_offerIf (s : State) (c : Bool) {b : RecordBody} (hb : b.isPlain = true) :
    s.Evolves A R (s.offerIf c b) := by
  unfold State.offerIf
  split
  · exact s.evolves_offer hb
  · exact .refl s

theorem State.evolves_reportShort (s : State) (src : SourceId) (lost : Option PatternId) :
    s.Evolves A R (s.reportShort src lost) := by
  unfold State.reportShort
  split
  next => exact .refl s
  next p =>
    split
    next => exact .refl s
    next hflag =>
      refine .of_step (.shortReported s.clock src p (by simpa [State.view] using hflag)) ?_
      simp only [State.view, State.offer_queue, State.offer_session, State.offer_serials, EventView.mk.injEq, true_and]
      funext c
      by_cases hc : src = c
      · subst hc; cases ha : s.queue.accepts <;> simp_all
      · cases ha : s.queue.accepts <;> simp [hc]

theorem State.evolves_reportLineError (s : State) (i : SerialId) (k : ErrorKind) :
    s.Evolves A R (s.reportLineError i k) := by
  unfold State.reportLineError
  split
  next hc =>
    refine .of_step (.errorReported s.clock i k hc.2) ?_
    simp only [State.view, State.offer_queue, State.offer_session, State.offer_shortFlags, EventView.mk.injEq, true_and,
      and_true]
    funext j
    by_cases hj : i = j
    · subst hj; cases ha : s.queue.accepts <;> simp_all
    · cases ha : s.queue.accepts <;> simp [hj]
  next => exact .refl s

/-! ### The engine and the sources -/

theorem State.evolves_complete (src : SourceId) (s : State) (c : Completion) :
    s.Evolves A R (State.complete src s c) := by
  unfold State.complete
  split
  next => exact .refl s
  next e _ =>
    dsimp only
    refine (State.evolves_offerIf
      { s with patterns := s.patterns.set c.pattern (some { e with
          hits := countUp e.hits, phase := if e.definition.oneShot = true then .spent else e.phase }) }
      e.definition.report (b := hitRecord c e.definition src) rfl).trans ?_
    split <;> exact .of_frame (by simp) (by simp) (by simp) (by simp)

theorem State.evolves_takeCompletions (s : State) (src : SourceId) (cs : List Completion) :
    s.Evolves A R (s.takeCompletions src cs) := by
  refine (State.evolves_foldl (State.complete src) (State.evolves_complete src) (inIndexOrder cs) s).trans ?_
  unfold State.takeCompletions
  dsimp only
  split
  · exact .of_frame rfl rfl rfl rfl
  · exact .refl _

theorem State.evolves_arrival (s : State) (src : SourceId) (sym : Symbol) : s.Evolves A R (s.arrival src sym) :=
  have judged : s.Evolves A R { s.judgeTrackers src sym with
      trackers := ((s.judgeTrackers src sym).starts (s.usedTrackers.filterMap (s.completionOf src sym)) src sym).trackers } :=
    .of_frame rfl rfl rfl rfl
  (judged.trans (State.evolves_reportShort _ src _)).trans (State.evolves_takeCompletions _ src _)

theorem State.evolves_deliver (s : State) (src : SourceId) (sym : Symbol) : s.Evolves A R (s.deliver src sym) := by
  have counted : s.Evolves A R (s.countReceived src) := .of_frame rfl rfl rfl rfl
  refine (counted.trans (State.evolves_arrival _ src sym)).trans ?_
  unfold State.deliver State.noteError
  split
  next i _ =>
    refine (State.evolves_reportLineError _ i _).after (.of_eq rfl rfl (fun j => ?_) rfl)
    by_cases hj : i = j
    · subst hj; simp
    · simp [hj]
  next => exact .refl _
  next => exact .refl _

theorem State.evolves_setReceiver (s : State) (src : SourceId) (f : SerialId → Receiver → Receiver) :
    s.Evolves A R (s.setReceiver src f) := by
  unfold State.setReceiver
  split
  next i _ =>
    refine .of_eq rfl rfl (fun j => ?_) rfl
    by_cases hj : i = j
    · subst hj; simp
    · simp [hj]
  next => exact .refl s

theorem State.evolves_setSourceState (s : State) (src : SourceId) (st : SourceState) :
    s.Evolves A R (s.setSourceState src st) := .of_frame rfl rfl rfl rfl

theorem State.evolves_enterListening (s : State) (src : SourceId) : s.Evolves A R (s.enterListening src) :=
  ((s.evolves_setSourceState src _).trans (State.evolves_setReceiver _ src _)).trans (State.evolves_offerIf _ _ rfl)

theorem State.evolves_enterSettling (s : State) (src : SourceId) : s.Evolves A R (s.enterSettling src) := by
  unfold State.enterSettling
  dsimp only
  split
  · exact s.evolves_enterListening src
  · exact (s.evolves_setSourceState src _).trans (State.evolves_setReceiver _ src _)

theorem State.evolves_goOff (s : State) (src : SourceId) : s.Evolves A R (s.goOff src) := by
  have off : s.Evolves A R ((s.setSourceState src .off).setReceiver src fun _ _ => .stopped) :=
    (s.evolves_setSourceState src _).trans (State.evolves_setReceiver _ src _)
  unfold State.goOff
  dsimp only
  split
  · exact off
  · exact off
  · exact off.trans (.of_frame rfl rfl rfl rfl)
  · exact off.trans (.of_frame rfl rfl rfl rfl)

theorem State.evolves_endRun (s : State) (src : SourceId) (reason : RunEnd) : s.Evolves A R (s.endRun src reason) :=
  State.Evolves.trans (u := { s with injectors := s.injectors.set src resetInjector }) (.of_frame rfl rfl rfl rfl)
    (State.evolves_offer _ rfl)

theorem State.evolves_endRunIfAny (s : State) (src : SourceId) (reason : RunEnd) :
    s.Evolves A R (s.endRunIfAny src reason) := by
  unfold State.endRunIfAny
  split
  · exact .refl s
  · exact s.evolves_endRun src reason

theorem State.evolves_configureSource (s : State) (src : SourceId) (c : SourceConfig) (line : Option LineConfig) :
    s.Evolves A R (s.configureSource src c line) := by
  unfold State.configureSource
  dsimp only
  split
  next i l _ =>
    refine .of_eq rfl rfl (fun j => ?_) rfl
    by_cases hj : i = j
    · subst hj; simp
    · simp [hj]
  next => exact .of_frame rfl rfl rfl rfl

theorem State.evolves_applySource (s : State) (src : SourceId) : s.Evolves A R (s.applySource src) := by
  unfold State.applySource
  dsimp only
  split
  · exact (s.evolves_endRunIfAny src _).trans (State.evolves_goOff _ src)
  · split
    · exact (s.evolves_setSourceState src _).trans (State.evolves_setReceiver _ src _)
    · exact s.evolves_enterSettling src

theorem State.evolves_afterDelivery (s : State) (src : SourceId) : s.Evolves A R (s.afterDelivery src) := by
  unfold State.afterDelivery
  split
  · exact s.evolves_endRun src _
  · exact .of_frame rfl rfl rfl rfl

theorem State.evolves_losePower (s : State) (i : SerialId) : s.Evolves A R (s.losePower i) := by
  have lost : s.Evolves A R ((s.goOff (sourceOf i)).reportSource (sourceOf i) .offHostPower) :=
    (s.evolves_goOff _).trans (State.evolves_offerIf _ _ rfl)
  unfold State.losePower
  split
  · split
    · exact lost
    · exact lost
    · exact .refl s
    · exact .refl s
  · exact .refl s

theorem State.evolves_gainPower (s : State) (i : SerialId) : s.Evolves A R (s.gainPower i) := by
  unfold State.gainPower
  split
  · exact s.evolves_enterSettling _
  · exact .refl s

theorem State.evolves_sourcesFollow (s : State) (p : HostPower) : s.Evolves A R (s.sourcesFollow p) := by
  cases p with
  | absent => exact State.evolves_foldl State.losePower State.evolves_losePower _ s
  | present => exact State.evolves_foldl State.gainPower State.evolves_gainPower _ s

/-! ### Contacts -/

theorem State.evolves_contactArrival (s : State) (sym : Option Byte) : s.Evolves A R (s.contactArrival sym) := by
  unfold State.contactArrival
  split
  · exact .refl s
  · split
    · exact s.evolves_deliver _ _
    · exact .refl s

theorem State.evolves_stableChange (s : State) (k : ContactId) (l : Level) : s.Evolves A R (s.stableChange k l) :=
  (State.evolves_contactArrival _ _).after (.of_frame rfl rfl rfl rfl)

theorem State.evolves_contactPin (s : State) (k : ContactId) (l : Level) : s.Evolves A R (s.contactPin k l) := by
  unfold State.contactPin
  dsimp only
  split
  · exact .of_frame rfl rfl rfl rfl
  · split
    · exact s.evolves_stableChange k l
    · split
      · exact .of_frame rfl rfl rfl rfl
      · exact .refl s

theorem State.evolves_configureContact (s : State) (k : ContactId) (cfg : ContactConfig) :
    s.Evolves A R (s.configureContact k cfg) := by
  have configured : s.Evolves A R { s with contacts := s.contacts.set k { s.contacts.get k with config := cfg } } :=
    .of_frame rfl rfl rfl rfl
  unfold State.configureContact
  dsimp only
  split
  · exact configured
  · split
    · exact configured.trans (State.evolves_stableChange _ k _)
    · exact configured.trans (.of_frame rfl rfl rfl rfl)

/-! ### The session block, notices and answers -/

theorem State.evolves_closeSession (s : State) (reason : CloseReason) : s.Evolves A R (s.closeSession reason) := by
  rcases s.closeSession_spec reason with ⟨-, e⟩ | ⟨-, e⟩
  · rw [e]
    exact .refl s
  · exact .of_step (.closed reason) (by rw [e]; rfl)

theorem State.evolves_chooseNotice {s s' : State} {r : Record} (h : s.chooseNotice = some (r, s')) :
    s.Evolves A R s' := by
  obtain ⟨o, ho, ⟨n, rest, hr, -, rfl⟩ | ⟨hr, hf, hw, rs, hm, rfl⟩⟩ := State.chooseNotice_spec h
  · exact .of_step (.resent o n rest ho hr) rfl
  · exact .of_step (.sent o r rs ho hr hf hw hm) rfl

theorem State.evolves_arbitrate (s : State) : s.Evolves A R s.arbitrate := by
  rcases s.arbitrate_spec with ⟨-, e⟩ | ⟨-, -, r, rest, -, e⟩ | ⟨-, -, -, n, s', hn, e⟩
  · rw [e]
    exact .refl s
  · rw [e]
    exact .of_frame rfl rfl rfl rfl
  · rw [e]
    exact (State.evolves_chooseNotice hn).trans (.of_frame rfl rfl rfl rfl)

theorem State.Answered.evolves {s t : State} {r : Reply} (h : s.Answered t r) : s.Evolves A R t := by
  obtain ⟨hserials, hshort⟩ : t.serials = s.serials ∧ t.shortFlags = s.shortFlags := by rw [h.rest]; simp
  rcases h.begun with ⟨hq, hs, -⟩ | ⟨-, -, -, n, s', hn, hq, hs, -⟩
  · refine .of_step (.saved r) ?_
    simp [State.view, hq, hs, hserials, hshort]
  · have hframe := State.chooseNotice_frame hn
    refine (State.evolves_chooseNotice hn).trans (.of_step (.saved r) ?_)
    rw [hframe]
    simp [State.view, hq, hs, hserials, hshort]

/-! ### Acknowledgements -/

theorem recordLeaves_errorFlag (s : State) (r : Record) (i : SerialId) :
    ((s.recordLeaves r).serials.get i).errorFlag =
      if r.isLineErrorOf i = true then false else (s.serials.get i).errorFlag := by
  unfold State.recordLeaves Record.isLineErrorOf
  cases r.body with
  | lineError j k =>
    by_cases hj : j = i
    · subst hj; simp
    · simp [hj]
  | _ => rfl

theorem recordLeaves_shortFlag (s : State) (r : Record) (src : SourceId) :
    (s.recordLeaves r).shortFlags.get src = if r.isShortOf src = true then false else s.shortFlags.get src := by
  unfold State.recordLeaves Record.isShortOf
  cases r.body with
  | trackerShort c p =>
    by_cases hc : c = src
    · subst hc; simp
    · simp [hc]
  | _ => rfl

/-- The report flags after records have left the queue (R115). -/
theorem foldl_recordLeaves_flags (gone : List Record) (s : State) :
    (∀ i, ((gone.foldl State.recordLeaves s).serials.get i).errorFlag =
      if gone.any (Record.isLineErrorOf i) = true then false else (s.serials.get i).errorFlag) ∧
    ∀ src, (gone.foldl State.recordLeaves s).shortFlags.get src =
      if gone.any (Record.isShortOf src) = true then false else s.shortFlags.get src := by
  induction gone generalizing s with
  | nil => simp
  | cons r gone ih =>
    obtain ⟨herror, hshort⟩ := ih (s.recordLeaves r)
    constructor
    · intro i
      rw [List.foldl_cons, herror, recordLeaves_errorFlag]
      cases h : r.isLineErrorOf i <;> simp [h]
    · intro src
      rw [List.foldl_cons, hshort, recordLeaves_shortFlag]
      cases h : r.isShortOf src <;> simp [h]

/-! ### Requests and resets -/

theorem State.flow_held {s : State} (h : s.flow = .held) : ∃ o, s.session.opened = some o ∧ o.flow = .held := by
  unfold State.flow at h
  split at h
  next o ho => exact ⟨o, ho, h⟩
  next => cases h

theorem State.Evolves.of_updateSession {s : State} {f : OpenSession → OpenSession}
    (h : ∀ o, s.session.opened = some o →
      EventStep A R s.view { s.view with session := { s.session with opened := some (f o) } }) :
    s.Evolves A R (s.updateSession f) := by
  cases ho : s.session.opened with
  | none =>
    refine .of_frame rfl ?_ rfl rfl
    rw [State.updateSession_session, ho, Option.map_none, ← ho]
  | some o => exact .of_step (h o ho) (by simp [State.view, State.updateSession, ho])

/-- What an accepted request does to the queue, the session and the flags at its block. -/
theorem State.Accepted.evolves {s t : State} {k : Kind} (h : s.Accepted k t) (hA : k = .ackEvents → A) :
    s.Evolves A R t := by
  cases h with
  | unchanged => exact .refl _
  | sessionOpened window timeout hw ht =>
    refine (s.evolves_closeSession .reopened).trans ?_
    refine .of_step (.opened window timeout hw ht ?_) ?_
    · rcases s.closeSession_spec .reopened with ⟨h, e⟩ | ⟨-, e⟩
      · rw [e]; exact h
      · rw [e]; rfl
    · rcases s.closeSession_spec .reopened with ⟨-, e⟩ | ⟨-, e⟩ <;> rw [e] <;> rfl
  | sessionClosed => exact s.evolves_closeSession _
  | noticesHeld => exact .of_updateSession fun o ho => .held o ho
  | noticesReleased hf =>
    refine .of_updateSession fun o ho => ?_
    obtain ⟨o', ho', hf⟩ := State.flow_held hf
    obtain rfl : o = o' := Option.some.inj (ho.symm.trans ho')
    exact .released o ho hf
  | acknowledged n gone rest h =>
    obtain ⟨herror, hshort⟩ := foldl_recordLeaves_flags gone s
    refine .of_step (.acknowledged (hA rfl) n gone rest h s.clock) ?_
    simp only [State.view, herror, hshort]
  | clockLoaded => exact .of_frame rfl rfl rfl rfl
  | sourceSet src c line => exact (s.evolves_configureSource src c line).trans (State.evolves_applySource _ src)
  | injected => exact .of_frame rfl rfl rfl rfl
  | injectCancelled src => exact s.evolves_endRun src _
  | contactSet k cfg => exact s.evolves_configureContact k cfg
  | patternDefined | patternArmed | patternStopped | patternErased | hitsCleared | flushed | wakeSet | wakesCleared =>
    exact .of_frame rfl rfl rfl rfl

theorem State.Dispatched.evolves {s t : State} {q k : Byte} {p : List Byte} (h : s.Dispatched q k p t)
    (hA : k = 0x07 → A) : s.Evolves A R t := by
  cases h with
  | setAside hfull ht => rw [ht]; exact .of_frame rfl rfl rfl rfl
  | refused hroom st h => exact h.evolves
  | repeated hroom r ho hq hk ht =>
    rw [ht]
    exact (State.evolves_arbitrate _).after (.of_frame rfl rfl rfl rfl)
  | accepted hroom hq kind hk items s' hs ha h =>
    exact ((answerOf_accepted ha).evolves fun e => hA (by rw [hk, e]; rfl)).trans h.evolves

theorem State.evolves_resetBlocks (s : State) (rate : LinkRate) (hR : R) (held : Bool) :
    s.Evolves A R { s.resetBlocks rate with resetHeld := held } := by
  refine .of_step (.reset hR) ?_
  simp [State.view, State.resetBlocks, State.reset, resetSession, resetSerial]

theorem State.evolves_startUp (s : State) (rate : LinkRate) (cause : StartCause) (hR : R) :
    s.Evolves A R (s.startUp rate cause) := by
  have started : s.Evolves A R ((s.resetBlocks rate).offer (.started cause)) :=
    (s.evolves_resetBlocks rate hR false).trans (State.evolves_offer _ rfl)
  exact started.trans (.of_frame (by simp [State.startUp]) (by simp [State.startUp]) (by simp [State.startUp])
    (by simp [State.startUp]))

theorem State.evolves_sessionFollows (s : State) (p : HostPower) : s.Evolves A R (s.sessionFollows p) := by
  cases p with
  | absent => exact s.evolves_closeSession _
  | present => exact .refl s

theorem State.evolves_powerChange (s : State) (p : HostPower) : s.Evolves A R (s.powerChange p) := by
  have offered : s.Evolves A R (({ s with power := { qualified := p, timer := none } } : State).offer (.power p)) :=
    (State.evolves_offer _ rfl).after (.of_frame rfl rfl rfl rfl)
  have followed := offered.trans (State.evolves_sourcesFollow _ p)
  have released := followed.trans (State.Evolves.of_frame (t := State.effectivenessChange _) rfl rfl rfl rfl)
  have closed := released.trans (State.evolves_sessionFollows _ p)
  exact closed.trans (.of_frame (by simp [State.powerChange]) (by simp [State.powerChange]) (by simp [State.powerChange])
    (by simp [State.powerChange]))

/-! ### Every command -/

/-- Every command is a chain of elementary changes. It acknowledges only as ACK_EVENTS or with a frame's last byte, and resets
only at RESET or at the end of a reply with a restart mark. -/
theorem State.Effect.evolves {s t : State} {i : Instr} (h : s.Effect i t) :
    s.Evolves ((∃ q k p, i.frame? = some (q, k, p) ∧ k = 0x07) ∨ ∃ b, i = .linkByte b)
      (i = .resetAssert ∨ (∃ lr1 lr0, i = .powerOnSequence lr1 lr0) ∨
        (i = .transmitFrameEnd ∧ ∃ r ∈ s.link.replies, r.restart = true)) t := by
  cases h with
  | idle => exact .refl s
  | dispatched _ q k p hi _ _ ht =>
    refine (ht.evolves fun hk => ?_).after (.of_frame rfl rfl rfl rfl)
    rcases hi with hi | hb
    · exact .inl ⟨q, k, p, hi, hk⟩
    · exact .inr hb
  | linkReset => exact (State.evolves_closeSession _ _).after (.of_frame rfl rfl rfl rfl)
  | noticeEnded | replyEnded => exact (State.evolves_arbitrate _).after (.of_frame rfl rfl rfl rfl)
  | restarted f r _ hr hm => exact s.evolves_startUp _ _ (.inr (.inr ⟨rfl, r, hr, hm⟩))
  | sessionLost => exact s.evolves_closeSession _
  | roundBegun o ho hdue hround =>
    refine State.Evolves.trans (.of_updateSession fun o' ho' => ?_) (State.evolves_arbitrate _)
    obtain rfl : o = o' := Option.some.inj (ho.symm.trans ho')
    exact .roundBegun o ho hdue hround
  | lineSeen _ src l f =>
    exact State.Evolves.trans (u := s.setLine src l) (.of_frame rfl rfl rfl rfl) (State.evolves_setReceiver _ _ f)
  | characterDelivered _ src l =>
    exact (((State.evolves_arbitrate _).after (State.evolves_deliver _ _ _)).after (State.evolves_setReceiver _ _ _)).after
      (.of_frame (t := s.setLine src l) rfl rfl rfl rfl)
  | settled src => exact (s.evolves_enterListening src).trans (State.evolves_arbitrate _)
  | contactMoved k l =>
    exact ((State.evolves_arbitrate _).after (State.evolves_contactPin _ k l)).after (.of_frame rfl rfl rfl rfl)
  | debounced k => exact (s.evolves_stableChange k _).trans (State.evolves_arbitrate _)
  | injectionDelivered src sym rest =>
    exact (((State.evolves_arbitrate _).after (State.evolves_afterDelivery _ _)).after (State.evolves_deliver _ _ _)).after
      (.of_frame rfl rfl rfl rfl)
  | powerChanged => exact s.evolves_powerChange _
  | ticked =>
    cases ho : s.session.opened with
    | none =>
      refine .of_frame rfl ?_ rfl rfl
      dsimp only [State.tickTimers]
      rw [ho, Option.map_none, ← ho]
    | some o => exact .of_step (.ticked o ho) (by simp [State.view, State.tickTimers, ho])
  | resetAsserted => exact s.evolves_resetBlocks _ (.inl rfl) true
  | poweredOn lr1 lr0 =>
    exact State.Evolves.trans (u := { s with pins := { s.pins with lr1 := lr1, lr0 := lr0 } }) (.of_frame rfl rfl rfl rfl)
      (State.evolves_startUp _ _ _ (.inr (.inl ⟨lr1, lr0, rfl⟩)))
  | lineHeard | contactPinned | debounceStopped | latchTaken | pulseEnded | trackerExpired | holdoffEnded | hostpwrPinned
  | hostpwrMoved | qualificationStopped => exact .of_frame rfl rfl rfl rfl

/-- What every elementary change keeps, every step keeps. -/
theorem step_keeps_view {P : EventView → Prop} (h : ∀ {A R : Prop} {v w}, P v → EventStep A R v w → P w) {s t : State}
    (hs : P s.view) (ht : step s = .next t) : P t.view := by
  refine step_keeps (P := fun s => P s.view) (fun _ _ hs => hs) (fun s i t hs ht => ?_) hs ht
  have chain := ht.evolves
  unfold State.Evolves at chain
  generalize t.view = w at chain
  induction chain with
  | refl => exact hs
  | tail _ hstep ih => exact h ih hstep

end Sys2Proof.Machine
end

section
/-! PROOFS. What every elementary change of the event queue, the session and the report flags keeps: the queue's bounds, numbers and
marks (R101, R110, R163), the report flags (R115), the session block (chapter 9), and the records themselves (R114, R118). -/
namespace Sys2Proof.Machine

variable {A R : Prop} {v w : EventView}

/-! ### The session block (chapter 9) -/

theorem EventQueue.sentCount_eq_length (q : EventQueue) : q.sentCount = q.sentNumbers.length := by
  simp [EventQueue.sentCount, EventQueue.sentNumbers, List.countP_eq_length_filter]

/-- An offer enters its record WAITING, or not at all. -/
theorem EventQueue.offer_sentNumbers (q : EventQueue) (clock : Word) (b : RecordBody) :
    (q.offer clock b).sentNumbers = q.sentNumbers := by
  rcases q.offer_spec clock b with ⟨-, -, e⟩ | ⟨-, e⟩ <;> rw [e] <;> simp [EventQueue.sentNumbers, Record.isSent]

/-- `State.SessionOk`, of the session block and the queue alone. -/
def EventView.SessionOk (v : EventView) : Prop :=
  ∀ o ∈ v.session.opened,
    v.session.number ≠ 0 ∧ 1 ≤ o.window ∧ o.window ≤ 8 ∧ 20 ≤ o.timeout ∧ o.timeout ≤ 5000 ∧ o.round ≤ 8 ∧
      o.resend <:+ v.queue.sentNumbers ∧ (o.flow = .held → o.resend = []) ∧
      (∀ n ∈ o.timer, n ≤ o.timeout ∧ o.flow = .flowing ∧ 0 < v.queue.sentCount) ∧
      ∀ r ∈ o.saved, r.seq ≠ 0 ∧ r.restart = false ∧ r.kind ≠ Kind.openSession.code

/-- With the session as it was and the same records SENT nothing is new. -/
theorem EventView.SessionOk.congr (h : v.SessionOk) (hs : w.session = v.session)
    (hq : w.queue.sentNumbers = v.queue.sentNumbers) : w.SessionOk := by
  intro o ho
  rw [hs] at ho ⊢
  rw [EventQueue.sentCount_eq_length, hq, ← EventQueue.sentCount_eq_length]
  exact h o ho

/-- The retransmit timer at a handover runs, as it did or from the timeout on (R167). -/
theorem OpenSession.timerAtHandover_le {o : OpenSession} (h : ∀ n ∈ o.timer, n ≤ o.timeout) :
    ∀ n ∈ o.timerAtHandover, n ≤ o.timeout := by
  unfold OpenSession.timerAtHandover
  split
  next => simp
  next t ht => simpa [ht] using h

theorem nextSession_ne_zero (n : Byte) : nextSession n ≠ 0 := by
  revert n
  decide

theorem EventQueue.sentCount_pos_of_marked {q : EventQueue} {r : Record} {rs : List Record}
    (h : markOldestWaiting q.records = some (r, rs)) : 0 < EventQueue.sentCount { q with records := rs } := by
  obtain ⟨before, after, -, rfl, -, -⟩ := markOldestWaiting_spec h
  exact List.countP_pos_iff.2 ⟨_, List.mem_append_right before List.mem_cons_self, rfl⟩

theorem EventStep.sessionOk (h : v.SessionOk) (step : EventStep A R v w) : w.SessionOk := by
  cases step with
  | offered | errorReported | shortReported => exact h.congr rfl (EventQueue.offer_sentNumbers ..)
  | resent o n rest ho hr =>
    obtain ⟨hnum, hw1, hw8, ht20, ht, hround, hsuffix, hheld, htimer, hsaved⟩ := h o ho
    rw [hr] at hsuffix
    have sent : 0 < v.queue.sentCount := by
      rw [EventQueue.sentCount_eq_length]
      exact Nat.lt_of_lt_of_le (by simp) hsuffix.length_le
    have flowing : o.flow = .flowing := by
      cases hf : o.flow with
      | flowing => rfl
      | held => simp [hheld hf] at hr
    rintro _ ⟨⟩
    exact ⟨hnum, hw1, hw8, ht20, ht, hround, (List.suffix_cons n rest).trans hsuffix, fun hf => by simp [flowing] at hf,
      fun m hm => ⟨OpenSession.timerAtHandover_le (fun n hn => (htimer n hn).1) m hm, flowing, sent⟩, hsaved⟩
  | sent o r rs ho hr hf hw hm =>
    obtain ⟨hnum, hw1, hw8, ht20, ht, hround, -, -, htimer, hsaved⟩ := h o ho
    rintro _ ⟨⟩
    exact ⟨hnum, hw1, hw8, ht20, ht, hround, by simp [hr], fun _ => hr, fun m hm' =>
      ⟨OpenSession.timerAtHandover_le (fun n hn => (htimer n hn).1) m hm', hf, EventQueue.sentCount_pos_of_marked hm⟩,
      hsaved⟩
  | saved r =>
    intro o' ho'
    obtain ⟨o, ho, rfl⟩ := Option.map_eq_some_iff.1 ho'
    have old := h o ho
    dsimp only
    split
    next => exact old
    next hr =>
      obtain ⟨hnum, hw1, hw8, ht20, ht, hround, hsuffix, hheld, htimer, -⟩ := old
      refine ⟨hnum, hw1, hw8, ht20, ht, hround, hsuffix, hheld, htimer, ?_⟩
      rintro _ ⟨⟩
      exact ⟨fun hq => hr (.inl hq), rfl, fun hk => hr (.inr hk)⟩
  | closed => rintro _ ⟨⟩
  | opened window timeout hw ht =>
    rintro _ ⟨⟩
    exact ⟨nextSession_ne_zero _, hw.1, hw.2, ht.1, ht.2, Nat.zero_le _, List.nil_suffix, fun _ => rfl, nofun, nofun⟩
  | held o ho =>
    obtain ⟨hnum, hw1, hw8, ht20, ht, hround, -, -, -, hsaved⟩ := h o ho
    rintro _ ⟨⟩
    exact ⟨hnum, hw1, hw8, ht20, ht, hround, List.nil_suffix, fun _ => rfl, nofun, hsaved⟩
  | released o ho hf =>
    obtain ⟨hnum, hw1, hw8, ht20, ht, hround, hsuffix, -, -, hsaved⟩ := h o ho
    rintro _ ⟨⟩
    refine ⟨hnum, hw1, hw8, ht20, ht, hround, hsuffix, nofun, fun n hn => ?_, hsaved⟩
    obtain ⟨hsent, e⟩ := Option.ite_none_right_eq_some.1 hn
    cases e
    exact ⟨Nat.le_refl _, rfl, Nat.pos_of_ne_zero hsent⟩
  | roundBegun o ho hdue hround =>
    obtain ⟨hnum, hw1, hw8, ht20, ht, -, -, -, htimer, hsaved⟩ := h o ho
    obtain ⟨-, flowing, -⟩ := htimer 0 hdue
    rintro _ ⟨⟩
    exact ⟨hnum, hw1, hw8, ht20, ht, hround, List.suffix_refl _, fun hf => by simp [flowing] at hf, nofun, hsaved⟩
  | ticked o ho =>
    obtain ⟨hnum, hw1, hw8, ht20, ht, hround, hsuffix, hheld, htimer, hsaved⟩ := h o ho
    rintro _ ⟨⟩
    refine ⟨hnum, hw1, hw8, ht20, ht, hround, hsuffix, hheld, fun n hn => ?_, hsaved⟩
    obtain ⟨m, hm, rfl⟩ := Option.map_eq_some_iff.1 hn
    obtain ⟨hle, hrest⟩ := htimer m hm
    exact ⟨Nat.le_trans (Nat.sub_le m 1) hle, hrest⟩
  | acknowledged _ n gone rest hsplit clock =>
    intro o' ho'
    obtain ⟨o, ho, rfl⟩ := Option.map_eq_some_iff.1 ho'
    obtain ⟨hnum, hw1, hw8, ht20, ht, -, -, -, -, hsaved⟩ := h o ho
    refine ⟨hnum, hw1, hw8, ht20, ht, Nat.zero_le _, List.nil_suffix, fun _ => rfl, fun n hn => ?_, hsaved⟩
    obtain ⟨⟨hsent, hf⟩, e⟩ := Option.ite_none_right_eq_some.1 hn
    cases e
    exact ⟨Nat.le_refl _, hf, Nat.pos_of_ne_zero hsent⟩
  | reset => rintro _ ⟨⟩

/-- Settles O57: every elementary change keeps the session block legal (`EventStep.sessionOk`). -/
theorem sessionKept : Obligations.SessionKept := fun _ _ hs h => step_keeps_view EventStep.sessionOk hs h

/-! ### The queue's numbers (R110) -/

/-- The numbers of a queue: consecutive, up to the one before the next. -/
def Consecutive (next : Half) (rs : List Record) : Prop :=
  rs.map Record.number = (List.range rs.length).map fun i => next - BitVec.ofNat 16 (rs.length - i)

theorem Consecutive.snoc {next : Half} {rs : List Record} (h : Consecutive next rs) {r : Record} (hr : r.number = next) :
    Consecutive (next + 1) (rs ++ [r]) := by
  have shift : ∀ m : Nat, next + 1 - BitVec.ofNat 16 (m + 1) = next - BitVec.ofNat 16 m := by
    intro m
    rw [show BitVec.ofNat 16 (m + 1) = BitVec.ofNat 16 m + 1 from BitVec.ofNat_add ..]
    bv_omega
  unfold Consecutive at h ⊢
  rw [List.map_append, h, List.length_append, List.length_singleton, List.range_succ, List.map_append]
  congr 1
  · refine List.map_congr_left fun i hi => ?_
    rw [List.mem_range] at hi
    rw [show rs.length + 1 - i = rs.length - i + 1 by omega, shift]
  · rw [List.map_singleton, List.map_singleton, hr, show rs.length + 1 - rs.length = 0 + 1 by omega, shift]
    exact congrArg (fun n => [n]) (BitVec.sub_zero next).symm

theorem Consecutive.of_append {next : Half} {gone rest : List Record} (h : Consecutive next (gone ++ rest)) :
    Consecutive next rest := by
  have suffix := congrArg (List.drop gone.length) h
  unfold Consecutive
  rw [← List.map_drop, List.drop_left] at suffix
  rw [suffix, ← List.map_drop, List.range_eq_range', List.drop_range', List.range_eq_range', List.length_append,
    Nat.add_sub_cancel_left, Nat.mul_one, Nat.zero_add, List.range'_eq_map_range, List.map_map, List.range_eq_range']
  refine List.map_congr_left fun i _ => ?_
  rw [Function.comp_apply, Nat.add_sub_add_left]

theorem Consecutive.of_map {next : Half} {rs rs' : List Record} (h : Consecutive next rs)
    (hn : rs'.map Record.number = rs.map Record.number) : Consecutive next rs' := by
  have hlen : rs'.length = rs.length := by simpa using congrArg List.length hn
  unfold Consecutive
  rw [hn, hlen]
  exact h

/-! ### Bounds and marks (R101, R111, R163) -/

/-- `EventQueue.Ok` and `State.MarksOk`, of the queue and the session block alone. -/
structure EventView.QueueOk (v : EventView) : Prop where
  ordinary : v.queue.ordinaryCount ≤ 63
  lost : v.queue.records.countP Record.isLost ≤ 1
  numbers : Consecutive v.queue.nextNumber v.queue.records
  order : v.queue.records.Pairwise fun a b => b.isSent = true → a.isSent = true
  closed : v.session.opened = none → v.queue.sentCount = 0
  window : ∀ o ∈ v.session.opened, v.queue.sentCount ≤ o.window

theorem State.queueOk_iff (s : State) : s.queue.Ok ∧ s.MarksOk ↔ s.view.QueueOk :=
  ⟨fun ⟨⟨ho, hl, hn⟩, hp, hc, hw⟩ => ⟨ho, hl, hn, hp, hc, hw⟩,
    fun ⟨ho, hl, hn, hp, hc, hw⟩ => ⟨⟨ho, hl, hn⟩, hp, hc, hw⟩⟩

/-- Another session over the same queue. -/
theorem EventView.QueueOk.withSession (h : v.QueueOk) {b : SessionBlock}
    (hc : b.opened = none → v.queue.sentCount = 0) (hw : ∀ o ∈ b.opened, v.queue.sentCount ≤ o.window) :
    EventView.QueueOk { v with session := b } :=
  { h with closed := hc, window := hw }

/-- An open session that keeps its window. -/
theorem EventView.QueueOk.withOpened (h : v.QueueOk) {o o' : OpenSession} (ho : v.session.opened = some o)
    (hw : o'.window = o.window) {number : Byte} {reason : CloseReason} :
    EventView.QueueOk { v with session := { number := number, opened := some o', lastClose := reason } } :=
  h.withSession nofun (by rintro _ ⟨⟩; rw [hw]; exact h.window o ho)

/-- The report flags have no part in it. -/
theorem EventView.QueueOk.congr (h : v.QueueOk) (hq : w.queue = v.queue) (hs : w.session = v.session) : w.QueueOk := by
  obtain ⟨ho, hl, hn, hp, hc, hw⟩ := h
  exact ⟨by rw [hq]; exact ho, by rw [hq]; exact hl, by rw [hq]; exact hn, by rw [hq]; exact hp,
    by rw [hq, hs]; exact hc, by rw [hq, hs]; exact hw⟩

/-- A record joins the tail, WAITING, under the next number. -/
theorem EventView.QueueOk.snoc (h : v.QueueOk) {r : Record} (hnum : r.number = v.queue.nextNumber)
    (hmark : r.mark = .waiting) (hordinary : r.isLost = false → v.queue.ordinaryCount < 63)
    (hlost : r.isLost = true → v.queue.lostPresent = false) (lost : Half) :
    EventView.QueueOk { v with
      queue := { records := v.queue.records ++ [r], nextNumber := v.queue.nextNumber + 1, lost := lost } } := by
  have waits : r.isSent = false := by simp [Record.isSent, hmark]
  have sent : EventQueue.sentCount { records := v.queue.records ++ [r], nextNumber := v.queue.nextNumber + 1, lost := lost } =
      v.queue.sentCount := by simp [EventQueue.sentCount, waits]
  refine ⟨?_, ?_, h.numbers.snoc hnum, ?_, fun hc => sent ▸ h.closed hc, fun o ho => sent ▸ h.window o ho⟩
  · have := h.ordinary
    cases hr : r.isLost <;> simp only [EventQueue.ordinaryCount, List.countP_append] at this hordinary ⊢
    · have := hordinary hr
      simp [hr]
      omega
    · simpa [hr] using this
  · have := h.lost
    cases hr : r.isLost
    · simpa [hr] using this
    · have := hlost hr
      simp only [EventQueue.lostPresent, List.any_eq_false] at this
      simp [hr, List.countP_eq_zero.2 this]
  · rw [List.pairwise_append]
    exact ⟨h.order, List.pairwise_singleton .., fun a _ b hb hsent => by simp_all⟩

theorem EventView.QueueOk.offer (h : v.QueueOk) (clock : Word) {b : RecordBody} (hb : ∀ n, b ≠ .lost n) :
    EventView.QueueOk { v with queue := v.queue.offer clock b } := by
  rcases v.queue.offer_spec clock b with ⟨hroom, -, e⟩ | ⟨-, e⟩ <;> rw [e]
  · refine h.snoc rfl rfl (fun _ => hroom) (fun hlost => ?_) _
    cases b <;> simp_all [Record.isLost]
  · exact ⟨h.ordinary, h.lost, h.numbers, h.order, h.closed, h.window⟩

/-- Records that differ from those before in their marks alone, with the marks in order. -/
theorem EventView.QueueOk.remark (h : v.QueueOk) {rs : List Record} {b : SessionBlock}
    (hrs : rs.map (fun r => (r.number, r.body)) = v.queue.records.map fun r => (r.number, r.body))
    (horder : rs.Pairwise fun a b => b.isSent = true → a.isSent = true)
    (hclosed : b.opened = none → rs.countP Record.isSent = 0) (hwindow : ∀ o ∈ b.opened, rs.countP Record.isSent ≤ o.window) :
    EventView.QueueOk { v with queue := { v.queue with records := rs }, session := b } := by
  have hnumber : rs.map Record.number = v.queue.records.map Record.number := by
    simpa [Function.comp_def] using congrArg (List.map Prod.fst) hrs
  have hbody : rs.map Record.body = v.queue.records.map Record.body := by
    simpa [Function.comp_def] using congrArg (List.map Prod.snd) hrs
  have count : ∀ f : RecordBody → Bool, rs.countP (fun r => f r.body) = v.queue.records.countP fun r => f r.body := by
    intro f
    have := congrArg (List.countP f) hbody
    rwa [List.countP_map, List.countP_map] at this
  refine ⟨?_, ?_, h.numbers.of_map hnumber, horder, hclosed, hwindow⟩
  · have := count fun body => !Record.isLost { number := 0, timestamp := 0, mark := .waiting, body := body }
    have old := h.ordinary
    unfold EventQueue.ordinaryCount at old ⊢
    exact Nat.le_trans (Nat.le_of_eq this) old
  · have := count fun body => Record.isLost { number := 0, timestamp := 0, mark := .waiting, body := body }
    exact Nat.le_trans (Nat.le_of_eq this) h.lost

/-- The oldest WAITING record becomes SENT: those before it are SENT, those behind it WAITING. -/
theorem pairwise_markOldestWaiting {rs rs' : List Record} {r : Record} (h : markOldestWaiting rs = some (r, rs'))
    (horder : rs.Pairwise fun a b => b.isSent = true → a.isSent = true) :
    rs'.Pairwise (fun a b => b.isSent = true → a.isSent = true) ∧
      rs'.countP Record.isSent = rs.countP Record.isSent + 1 := by
  obtain ⟨before, after, rfl, rfl, hbefore, hr⟩ := markOldestWaiting_spec h
  rw [List.pairwise_append, List.pairwise_cons] at horder
  obtain ⟨hb, ⟨hrest, ha⟩, -⟩ := horder
  have waits : r.isSent = false := by simp [Record.isSent, hr]
  refine ⟨?_, ?_⟩
  · rw [List.pairwise_append, List.pairwise_cons]
    refine ⟨hb, ⟨fun a ham hsent => ?_, ha⟩, fun a hab b _ _ => by simp [Record.isSent, hbefore a hab]⟩
    rw [hrest a ham hsent] at waits
    cases waits
  · simp only [List.countP_append, List.countP_cons, waits]
    simp [Record.isSent]
    omega

/-- The records behind those that an acknowledgement removes. -/
theorem EventView.QueueOk.suffix (h : v.QueueOk) {gone rest : List Record} (hrs : v.queue.records = gone ++ rest)
    {opened : Option OpenSession} (hnone : opened = none → v.session.opened = none)
    (hsome : ∀ o ∈ opened, ∃ o' ∈ v.session.opened, o.window = o'.window) {e : SerialId → Bool} {f : SourceId → Bool} :
    EventView.QueueOk
      { queue := { v.queue with records := rest }, session := { v.session with opened := opened }, errorFlag := e,
        shortFlag := f } := by
  obtain ⟨hordinary, hlost, hnumbers, horder, hclosed, hwindow⟩ := h
  simp only [EventQueue.ordinaryCount, EventQueue.sentCount, hrs, List.countP_append] at hordinary hlost hclosed hwindow
  rw [hrs] at hnumbers horder
  refine ⟨?_, ?_, hnumbers.of_append, (List.pairwise_append.1 horder).2.1, fun hc => ?_, fun o ho => ?_⟩
  · show rest.countP _ ≤ 63
    omega
  · show rest.countP _ ≤ 1
    omega
  · have := hclosed (hnone hc)
    show rest.countP _ = 0
    omega
  · obtain ⟨o', ho', e⟩ := hsome o ho
    have := hwindow o' ho'
    show rest.countP _ ≤ o.window
    omega

theorem EventView.QueueOk.judgeLost (h : v.QueueOk) (clock : Word) :
    EventView.QueueOk { v with queue := v.queue.judgeLost clock } := by
  unfold EventQueue.judgeLost
  split
  next hdue =>
    simp only [EventQueue.lostDue, Bool.and_eq_true, Bool.not_eq_true'] at hdue
    exact h.snoc rfl rfl (fun hf => absurd hf (by simp [Record.isLost])) (fun _ => hdue.1.2) 0
  next => exact h

theorem EventStep.queueOk (h : v.QueueOk) (step : EventStep A R v w) : w.QueueOk := by
  cases step with
  | offered clock b hb => exact h.offer clock fun n e => by simp [e, RecordBody.isPlain] at hb
  | errorReported clock => exact (h.offer clock (b := .lineError _ _) nofun).congr rfl rfl
  | shortReported clock => exact (h.offer clock (b := .trackerShort _ _) nofun).congr rfl rfl
  | resent o n rest ho | held o ho | released o ho | roundBegun o ho | ticked o ho => exact h.withOpened ho (by rfl)
  | sent o r rs ho hr hf hw hm =>
    obtain ⟨horder, hcount⟩ := pairwise_markOldestWaiting hm h.order
    refine h.remark ?_ horder nofun ?_
    · obtain ⟨before, after, e, e', -, -⟩ := markOldestWaiting_spec hm
      rw [e, e']
      simp
    · rintro _ ⟨⟩
      rw [hcount]
      exact hw
  | saved r =>
    refine h.withSession (fun hc => h.closed (Option.map_eq_none_iff.1 hc)) fun o' ho' => ?_
    obtain ⟨o, ho, rfl⟩ := Option.map_eq_some_iff.1 ho'
    refine Nat.le_trans (h.window o ho) ?_
    split <;> exact Nat.le_refl _
  | closed reason =>
    refine h.remark (by simp [Function.comp_def]) (List.pairwise_map.2 ?_) (fun _ => ?_) nofun
    · simp [Record.isSent, List.pairwise_iff_getElem]
    · rw [List.countP_eq_zero]
      simp [Record.isSent]
  | opened window timeout hw ht hc =>
    refine h.withSession nofun ?_
    rintro _ ⟨⟩
    rw [h.closed hc]
    exact Nat.zero_le _
  | acknowledged _ n gone rest hsplit clock =>
    obtain ⟨hrs, -⟩ := ackSplit_spec hsplit
    refine EventView.QueueOk.judgeLost (h.suffix hrs (fun hc => Option.map_eq_none_iff.1 hc) fun o' ho' => ?_) clock
    obtain ⟨o, ho, rfl⟩ := Option.map_eq_some_iff.1 ho'
    exact ⟨o, ho, rfl⟩
  | reset => exact ⟨Nat.zero_le _, Nat.zero_le _, rfl, .nil, fun _ => rfl, nofun⟩

/-- Settles O52: every elementary change keeps bounds, numbers and marks (`EventStep.queueOk`). -/
theorem queueKept : Obligations.QueueKept := fun s t hs h =>
  t.queueOk_iff.2 (step_keeps_view EventStep.queueOk (s.queueOk_iff.1 hs) h)

/-! ### The report flags (R115) -/

/-- `State.FlagsOk`, of the queue and the flags alone. -/
def EventView.FlagsOk (v : EventView) : Prop :=
  (∀ i : SerialId, v.queue.records.countP (Record.isLineErrorOf i) = if v.errorFlag i = true then 1 else 0) ∧
    ∀ src : SourceId, v.queue.records.countP (Record.isShortOf src) = if v.shortFlag src = true then 1 else 0

/-- The number of records of one sort after an offer: one more where a record of the sort enters. -/
theorem EventQueue.offer_countP (q : EventQueue) (clock : Word) (b : RecordBody) (f : RecordBody → Bool) :
    (q.offer clock b).records.countP (fun r => f r.body) =
      q.records.countP (fun r => f r.body) + if q.accepts = true ∧ f b = true then 1 else 0 := by
  unfold EventQueue.offer
  split
  next ha => simp [EventQueue.enter, ha, List.countP_append, List.countP_singleton]
  next ha => simp [ha]

/-- With records of the same kinds, in their bodies, and the same flags nothing is new. -/
theorem EventView.FlagsOk.remark (h : v.FlagsOk) {q : EventQueue} {b : SessionBlock}
    (hq : q.records.map Record.body = v.queue.records.map Record.body) :
    EventView.FlagsOk { v with queue := q, session := b } := by
  have count : ∀ f : RecordBody → Bool, q.records.countP (fun r => f r.body) = v.queue.records.countP fun r => f r.body := by
    intro f
    have := congrArg (List.countP f) hq
    rwa [List.countP_map, List.countP_map] at this
  refine ⟨fun i => Eq.trans ?_ (h.1 i), fun src => Eq.trans ?_ (h.2 src)⟩
  · exact count fun body => Record.isLineErrorOf i { number := 0, timestamp := 0, mark := .waiting, body := body }
  · exact count fun body => Record.isShortOf src { number := 0, timestamp := 0, mark := .waiting, body := body }

theorem EventView.FlagsOk.withSession (h : v.FlagsOk) (b : SessionBlock) : EventView.FlagsOk { v with session := b } := h

/-- The LINE_ERROR and TRACKER_SHORT records after an offer. -/
theorem EventQueue.offer_reports (q : EventQueue) (clock : Word) (b : RecordBody) :
    (∀ i, (q.offer clock b).records.countP (Record.isLineErrorOf i) = q.records.countP (Record.isLineErrorOf i) +
      if q.accepts = true ∧ Record.isLineErrorOf i { number := 0, timestamp := 0, mark := .waiting, body := b } = true
        then 1 else 0) ∧
    ∀ src, (q.offer clock b).records.countP (Record.isShortOf src) = q.records.countP (Record.isShortOf src) +
      if q.accepts = true ∧ Record.isShortOf src { number := 0, timestamp := 0, mark := .waiting, body := b } = true
        then 1 else 0 :=
  ⟨fun i => q.offer_countP clock b fun body =>
      Record.isLineErrorOf i { number := 0, timestamp := 0, mark := .waiting, body := body },
    fun src => q.offer_countP clock b fun body =>
      Record.isShortOf src { number := 0, timestamp := 0, mark := .waiting, body := body }⟩

/-- Of at most one record of a sort none is left where one has gone. -/
theorem countP_rest {gone rest : List Record} {f : Record → Bool} {flag : Bool}
    (h : (gone ++ rest).countP f = if flag = true then 1 else 0) :
    rest.countP f = if (if gone.any f = true then false else flag) = true then 1 else 0 := by
  rw [List.countP_append] at h
  cases hany : gone.any f with
  | true =>
    have : 0 < gone.countP f := List.countP_pos_iff.2 (List.any_eq_true.1 hany)
    have : gone.countP f + rest.countP f ≤ 1 := by rw [h]; split <;> omega
    simp only [if_true, Bool.false_eq_true, if_false]
    omega
  | false =>
    have : gone.countP f = 0 := List.countP_eq_zero.2 fun a ha => by simp [List.any_eq_false.1 hany a ha]
    simp only [Bool.false_eq_true, if_false]
    omega

theorem judgeLost_countP (q : EventQueue) (clock : Word) {f : Record → Bool}
    (hf : ∀ r, r.isLost = true → f r = false) : (q.judgeLost clock).records.countP f = q.records.countP f := by
  unfold EventQueue.judgeLost
  split
  · have : f { number := q.nextNumber, timestamp := clock, mark := .waiting, body := .lost q.lost } = false := hf _ rfl
    simp [EventQueue.enter, this]
  · rfl

theorem Record.isLineErrorOf_of_isLost {r : Record} (h : r.isLost = true) (i : SerialId) : r.isLineErrorOf i = false := by
  unfold Record.isLost at h
  split at h
  next hb => simp [Record.isLineErrorOf, hb]
  all_goals cases h

theorem Record.isShortOf_of_isLost {r : Record} (h : r.isLost = true) (src : SourceId) : r.isShortOf src = false := by
  unfold Record.isLost at h
  split at h
  next hb => simp [Record.isShortOf, hb]
  all_goals cases h

theorem RecordBody.isLineErrorOf_of_isPlain {b : RecordBody} (hb : b.isPlain = true) (i : SerialId) (n : Half) (c : Word)
    (m : Mark) : Record.isLineErrorOf i { number := n, timestamp := c, mark := m, body := b } = false := by
  cases b <;> first | rfl | cases hb

theorem RecordBody.isShortOf_of_isPlain {b : RecordBody} (hb : b.isPlain = true) (src : SourceId) (n : Half) (c : Word)
    (m : Mark) : Record.isShortOf src { number := n, timestamp := c, mark := m, body := b } = false := by
  cases b <;> first | rfl | cases hb

theorem EventStep.flagsOk (h : v.FlagsOk) (step : EventStep A R v w) : w.FlagsOk := by
  cases step with
  | offered clock b hb =>
    obtain ⟨herror, hshort⟩ := v.queue.offer_reports clock b
    refine ⟨fun i => (herror i).trans ?_, fun src => (hshort src).trans ?_⟩
    · simp [h.1 i, RecordBody.isLineErrorOf_of_isPlain hb]
    · simp [h.2 src, RecordBody.isShortOf_of_isPlain hb]
  | errorReported clock i k hflag =>
    obtain ⟨herror, hshort⟩ := v.queue.offer_reports clock (.lineError i k)
    refine ⟨fun j => (herror j).trans ?_, fun src => (hshort src).trans ?_⟩
    · have old := h.1 j
      by_cases hj : i = j
      · subst hj
        cases ha : v.queue.accepts <;> simp [old, hflag, Record.isLineErrorOf]
      · simp [old, hj, Record.isLineErrorOf]
    · simp [h.2 src, Record.isShortOf]
  | shortReported clock src p hflag =>
    obtain ⟨herror, hshort⟩ := v.queue.offer_reports clock (.trackerShort src p)
    refine ⟨fun i => (herror i).trans ?_, fun c => (hshort c).trans ?_⟩
    · simp [h.1 i, Record.isLineErrorOf]
    · have old := h.2 c
      by_cases hc : src = c
      · subst hc
        cases ha : v.queue.accepts <;> simp [old, hflag, Record.isShortOf]
      · simp [old, hc, Record.isShortOf]
  | sent o r rs _ _ _ _ hm =>
    refine h.remark ?_
    obtain ⟨before, after, e, e', -, -⟩ := markOldestWaiting_spec hm
    rw [e, e']
    simp
  | closed => exact h.remark (by simp [EventQueue.allWaiting, Function.comp_def])
  | acknowledged _ n gone rest hsplit clock =>
    obtain ⟨hrs, -⟩ := ackSplit_spec hsplit
    refine ⟨fun i => ?_, fun src => ?_⟩
    · rw [judgeLost_countP _ _ fun r hr => Record.isLineErrorOf_of_isLost hr i]
      exact countP_rest (hrs ▸ h.1 i)
    · rw [judgeLost_countP _ _ fun r hr => Record.isShortOf_of_isLost hr src]
      exact countP_rest (hrs ▸ h.2 src)
  | resent | saved | opened | held | released | roundBegun | ticked => exact h.withSession _
  | reset => exact ⟨fun _ => rfl, fun _ => rfl⟩

/-- Settles O53: a report sets its flag exactly where its record enters, and the record's leaving clears it
(`EventStep.flagsOk`). -/
theorem reportFlagsKept : Obligations.ReportFlagsKept := fun _ _ hs h => step_keeps_view EventStep.flagsOk hs h

/-! ### The records stay (R114, R118) -/

/-- A record but for its delivery mark. -/
def Record.content (r : Record) : Half × Word × RecordBody := (r.number, r.timestamp, r.body)

/-- An elementary change that neither acknowledges nor resets keeps every record, and adds new ones behind them. -/
theorem EventStep.records_stay (hA : ¬A) (hR : ¬R) (step : EventStep A R v w) :
    ∃ new, w.queue.records.map Record.content = v.queue.records.map Record.content ++ new := by
  have offer : ∀ clock b, ∃ new,
      (v.queue.offer clock b).records.map Record.content = v.queue.records.map Record.content ++ new := by
    intro clock b
    rcases v.queue.offer_spec clock b with ⟨-, -, e⟩ | ⟨-, e⟩ <;> rw [e]
    · exact ⟨_, List.map_append⟩
    · exact ⟨[], (List.append_nil _).symm⟩
  cases step with
  | offered clock b => exact offer clock b
  | errorReported clock => exact offer clock _
  | shortReported clock => exact offer clock _
  | sent o r rs _ _ _ _ hm =>
    obtain ⟨before, after, e, e', -, -⟩ := markOldestWaiting_spec hm
    exact ⟨[], by simp [e, e', Record.content]⟩
  | closed => exact ⟨[], by simp [EventQueue.allWaiting, Function.comp_def, Record.content]⟩
  | resent | saved | opened | held | released | roundBegun | ticked => exact ⟨[], (List.append_nil _).symm⟩
  | acknowledged h => exact absurd h hA
  | reset h => exact absurd h hR

/-- Settles O60: no elementary change but an acknowledgement or a reset takes a record out of the queue
(`EventStep.records_stay`), and the commands named bring neither. -/
theorem recordsStay : Obligations.RecordsStay := by
  intro s t i hframe hbyte hassert hpower hend h
  have chain := (exec_effect h).evolves
  unfold State.Evolves at chain
  change ∃ new, t.view.queue.records.map Record.content = s.view.queue.records.map Record.content ++ new
  generalize t.view = w at chain
  induction chain with
  | refl => exact ⟨[], (List.append_nil _).symm⟩
  | tail _ hstep ih =>
    obtain ⟨new, hnew⟩ := ih
    obtain ⟨more, hmore⟩ := hstep.records_stay
      (by
        rintro (⟨q, k, p, hi, hk⟩ | ⟨b, hb⟩)
        · exact hframe q k p hi hk
        · exact hbyte b hb)
      (by
        rintro (hi | ⟨lr1, lr0, hi⟩ | ⟨hi, r, hr, hm⟩)
        · exact hassert hi
        · exact hpower lr1 lr0 hi
        · simp [hend hi r hr] at hm)
    exact ⟨new ++ more, by rw [hmore, hnew, List.append_assoc]⟩

end Sys2Proof.Machine
end

section
/-! PROOFS. The host link and the arbiter (chapter 8): at most four replies, the one being sent at the head, a held link idle, and
nothing left waiting at an idle transmitter (R145, R153, R154, R156). -/
namespace Sys2Proof.Machine

/-! ### When the session block has a notice to send -/

theorem State.chooseNotice_isNone_iff (s : State) :
    s.chooseNotice.isNone = true ↔ ∀ o ∈ s.session.opened,
      (∀ n rest, o.resend = n :: rest → s.queue.records.find? (fun r => decide (r.number = n)) = none) ∧
        (o.resend = [] → o.flow = .flowing → s.queue.sentCount < o.window →
          markOldestWaiting s.queue.records = none) := by
  unfold State.chooseNotice
  cases s.session.opened with
  | none => simp
  | some o =>
    dsimp only
    cases hr : o.resend with
    | cons n rest =>
      dsimp only
      cases hf : s.queue.records.find? fun r => decide (r.number = n) with
      | none =>
        refine iff_of_true rfl ?_
        rintro _ ⟨⟩
        refine ⟨fun n' rest' e => ?_, fun e => ?_⟩ <;> rw [hr] at e <;> cases e
        exact hf
      | some r =>
        refine iff_of_false nofun fun h => ?_
        have := (h o rfl).1 n rest hr
        rw [hf] at this
        cases this
    | nil =>
      dsimp only
      split
      next hc =>
        cases hm : markOldestWaiting s.queue.records with
        | none => simp [hr]
        | some x =>
          refine iff_of_false nofun fun h => ?_
          cases (h o rfl).2 hr hc.1 hc.2
      next hc =>
        refine iff_of_true rfl ?_
        rintro _ ⟨⟩
        exact ⟨fun _ _ e => (by rw [hr] at e; cases e), fun _ hf hw => absurd ⟨hf, hw⟩ hc⟩

theorem State.chooseNotice_isNone_congr {s t : State} (hq : t.queue = s.queue)
    (hs : t.session.opened.map (fun o => (o.resend, o.flow, o.window)) =
      s.session.opened.map fun o => (o.resend, o.flow, o.window)) :
    t.chooseNotice.isNone = s.chooseNotice.isNone := by
  rw [Bool.eq_iff_iff, State.chooseNotice_isNone_iff, State.chooseNotice_isNone_iff, hq]
  cases ht : t.session.opened <;> cases hs' : s.session.opened <;> simp_all

/-! ### Keeping the link legal -/

/-- The link as it was, its hold too, with the session as closed as it was. -/
theorem State.LinkOk.congr {s t : State} (h : s.LinkOk) (hl : t.link = s.link)
    (hp : t.power.qualified = s.power.qualified) (hs : s.session.opened = none → t.session.opened = none) : t.LinkOk := by
  obtain ⟨hreplies, hreceiver, hhead, hheld⟩ := h
  have held : t.linkHeld = s.linkHeld := by simp [State.linkHeld, hp]
  refine ⟨by rw [hl]; exact hreplies, by rw [hl]; exact hreceiver, by rw [hl]; exact hhead, fun h => ?_⟩
  obtain ⟨h1, h2, h3, h4, h5⟩ := hheld (held ▸ h)
  rw [hl]
  exact ⟨h1, h2, h3, h4, hs h5⟩

/-- Nothing that waits can appear while queue, session, replies and transmitter are as they were. -/
theorem State.ArbiterOk.congr {s t : State} (h : s.ArbiterOk) (hp : t.power.qualified = s.power.qualified)
    (hr : t.link.replies = s.link.replies) (ht : t.link.transmitter = s.link.transmitter) (hq : t.queue = s.queue)
    (hs : t.session.opened.map (fun o => (o.resend, o.flow, o.window)) =
      s.session.opened.map fun o => (o.resend, o.flow, o.window)) : t.ArbiterOk := by
  have held : t.linkHeld = s.linkHeld := by simp [State.linkHeld, hp]
  intro hh hi
  obtain ⟨h1, h2⟩ := h (held ▸ hh) (ht ▸ hi)
  exact ⟨hr ▸ h1, by rw [State.chooseNotice_isNone_congr hq hs]; exact h2⟩

/-- A command that leaves link, host power, queue and session as they were. -/
theorem State.link_arbiter_congr {s t : State} (h : s.LinkOk ∧ s.ArbiterOk) (hl : t.link = s.link)
    (hp : t.power.qualified = s.power.qualified) (hq : t.queue = s.queue) (hs : t.session = s.session) :
    t.LinkOk ∧ t.ArbiterOk :=
  ⟨h.1.congr hl hp (fun hc => by rw [hs, hc]), h.2.congr hp (by rw [hl]) (by rw [hl]) hq (by rw [hs])⟩

/-- A held link has nothing for the arbiter to do. -/
theorem State.ArbiterOk.of_held {s : State} (h : s.power.qualified = .absent) : s.ArbiterOk := fun hh => by
  rw [(s.linkHeld_iff).2 h] at hh
  cases hh

/-- The arbiter keeps the link legal and leaves nothing waiting (R154). -/
theorem State.LinkOk.arbitrate {s : State} (h : s.LinkOk) : s.arbitrate.LinkOk ∧ s.arbitrate.ArbiterOk := by
  obtain ⟨hreplies, hreceiver, hhead, hheld⟩ := h
  rcases s.arbitrate_spec with ⟨hc, e⟩ | ⟨hp, -, r, rest, hr, e⟩ | ⟨hp, -, -, n, s', hn, e⟩
  · rw [e]
    refine ⟨⟨hreplies, hreceiver, hhead, hheld⟩, fun hh hi => ?_⟩
    rcases hc with hc | hc | ⟨hc, hn⟩
    · rw [(s.linkHeld_iff).2 hc] at hh
      cases hh
    · exact absurd hi hc
    · exact ⟨hc, by rw [hn]; rfl⟩
  · rw [e]
    exact ⟨⟨hreplies, hreceiver, by simp [Link.sendsHead, hr], fun hh => by
      rw [State.linkHeld_iff, hp] at hh; cases hh⟩, fun _ hi => nomatch hi⟩
  · have hframe := State.chooseNotice_frame hn
    rw [e]
    refine ⟨⟨hreplies, hreceiver, rfl, fun hh => ?_⟩, fun _ hi => nomatch hi⟩
    rw [State.linkHeld_iff, hframe, hp] at hh
    cases hh

/-- A reply joins a queue that has room. -/
theorem Link.sendsHead_append {l : Link} (h : l.sendsHead = true) (r : Reply) :
    Link.sendsHead { l with replies := l.replies ++ [r] } = true := by
  unfold Link.sendsHead at h ⊢
  cases ht : l.transmitter with
  | idle => rfl
  | sendingNotice => rfl
  | sendingReply f =>
    simp only [ht, decide_eq_true_eq] at h ⊢
    cases hr : l.replies with
    | nil => simp [hr] at h
    | cons a rest => simpa [hr] using h

theorem State.Answered.link_arbiter {s t : State} {r : Reply} (h : s.Answered t r) (hp : s.power.qualified = .present)
    (hroom : s.link.replies.length < 4) (hreceiver : s.link.receiver.ok = true) (hhead : s.link.sendsHead = true) :
    t.LinkOk ∧ t.ArbiterOk := by
  have hlink := h.link
  have hpower : t.power = s.power := by rw [h.rest]
  have live : t.linkHeld = false := (t.linkHeld_false_iff).2 (by rw [hpower, hp])
  have busy : t.link.transmitter ≠ .idle ∧ t.link.sendsHead = true := by
    rw [hlink]
    rcases h.begun with ⟨-, -, ⟨hb, e⟩ | ⟨-, a, rest, hr, e⟩⟩ | ⟨-, -, -, n, s', -, -, -, e⟩ <;> rw [e]
    · exact ⟨hb, Link.sendsHead_append hhead r⟩
    · exact ⟨nofun, by simp [Link.sendsHead, hr]⟩
    · exact ⟨nofun, rfl⟩
  refine ⟨⟨?_, ?_, busy.2, fun hh => by rw [live] at hh; cases hh⟩, fun _ hi => absurd hi busy.1⟩
  · rw [hlink, List.length_append]
    exact hroom
  · rw [hlink]
    exact hreceiver

/-- A reset leaves the link at its POR values, held by host power ABSENT (R135, R156). -/
theorem State.link_arbiter_of_reset {s : State} {rate : LinkRate} (hp : s.power.qualified = .absent)
    (hl : s.link = { State.reset.link with rate := rate }) (hs : s.session.opened = none) : s.LinkOk ∧ s.ArbiterOk := by
  refine ⟨?_, .of_held hp⟩
  rw [State.LinkOk, hl]
  exact ⟨Nat.zero_le _, rfl, rfl, fun _ => ⟨rfl, rfl, rfl, rfl, hs⟩⟩

theorem FrameReceiver.tick_ok {r : FrameReceiver} (h : r.ok = true) : r.tick.ok = true := by
  match r with
  | .hunting => rfl
  | .receiving none got t =>
    simp only [FrameReceiver.ok, FrameReceiver.tick, decide_eq_true_eq] at h ⊢
    exact ⟨h.1, by omega⟩
  | .receiving (some len) got t =>
    simp only [FrameReceiver.ok, FrameReceiver.tick, decide_eq_true_eq] at h ⊢
    omega

theorem State.closeSession_opened (s : State) (reason : CloseReason) : (s.closeSession reason).session.opened = none := by
  rcases s.closeSession_spec reason with ⟨h, e⟩ | ⟨-, e⟩ <;> rw [e]
  exact h

/-- A link reset, or a hold, with the session closed: nothing is received, queued or sent (R150, R156). -/
theorem State.link_arbiter_of_cleared {t : State} {l : Link} (hl : t.link = l.cleared) (hs : t.session.opened = none) :
    t.LinkOk ∧ t.ArbiterOk := by
  rw [Link.cleared, Link.dropPartial_eq] at hl
  rw [State.LinkOk, State.ArbiterOk, State.chooseNotice_isNone_closed hs, hl]
  exact ⟨⟨Nat.zero_le _, rfl, rfl, fun _ => ⟨rfl, rfl, rfl, rfl, hs⟩⟩, fun _ _ => ⟨rfl, rfl⟩⟩

theorem State.Dispatched.link_arbiter {s t : State} {q k : Byte} {p : List Byte} (h : s.Dispatched q k p t)
    (hp : s.power.qualified = .present) (hs : s.LinkOk ∧ s.ArbiterOk) : t.LinkOk ∧ t.ArbiterOk := by
  obtain ⟨hlinkOk, harbiter⟩ := hs
  have live : s.linkHeld = false := (s.linkHeld_false_iff).2 hp
  obtain ⟨hreplies, hreceiver, hhead, -⟩ := id hlinkOk
  cases h with
  | setAside hfull ht =>
    subst ht
    exact ⟨⟨hreplies, hreceiver, hhead, fun hh => nomatch live.symm.trans hh⟩,
      harbiter.congr rfl rfl rfl rfl rfl⟩
  | refused hroom st h => exact h.link_arbiter hp hroom hreceiver hhead
  | repeated hroom r ho hq hk ht =>
    subst ht
    refine State.LinkOk.arbitrate ⟨?_, hreceiver, Link.sendsHead_append hhead r, fun hh => ?_⟩
    · rw [State.enqueueReply_link, List.length_append]
      exact hroom
    · exact nomatch live.symm.trans hh
  | accepted hroom hq kind hk items s' hneeds ha h =>
    obtain ⟨hlink, hpower, -⟩ := answerOf_accept_keeps ha
    exact h.link_arbiter (by rw [hpower, hp]) (by rw [hlink]; exact hroom) (by rw [hlink]; exact hreceiver)
      (by rw [hlink]; exact hhead)

/-- A qualified change of host power: at ABSENT the link is held, at PRESENT it was, and so has nothing to send (R156). -/
theorem State.powerChange_link_arbiter {s : State} (h : s.LinkOk) {p : HostPower} (hp : p ≠ s.power.qualified) :
    (s.powerChange p).LinkOk ∧ (s.powerChange p).ArbiterOk := by
  obtain ⟨hreplies, hreceiver, hhead, hheld⟩ := h
  have power : (s.powerChange p).power.qualified = p := by simp [State.powerChange]
  cases p with
  | absent =>
    have link : (s.powerChange .absent).link = s.link.cleared := by simp [State.powerChange, State.linkFollows]
    have closed : (s.powerChange .absent).session.opened = none := by
      simp only [State.powerChange, State.wakesFollow_session, State.linkFollows_frame, State.sessionFollows]
      exact State.closeSession_opened ..
    exact State.link_arbiter_of_cleared link closed
  | present =>
    have held : s.linkHeld = true := by
      rw [State.linkHeld_iff]
      cases hq : s.power.qualified with
      | absent => rfl
      | present => exact absurd hq.symm hp
    obtain ⟨-, -, hempty, hidle, hclosed⟩ := hheld held
    have link : (s.powerChange .present).link = { s.link with byteReceiver := byteReceiverAt s.pins.hrx } := by
      simp [State.powerChange, State.linkFollows]
    have closed : (s.powerChange .present).session.opened = none := by
      simpa [State.powerChange, State.sessionFollows] using hclosed
    rw [State.LinkOk, State.ArbiterOk, link, State.chooseNotice_isNone_closed closed]
    refine ⟨⟨hreplies, hreceiver, hhead, fun hh => ?_⟩, fun _ _ => ⟨hempty, rfl⟩⟩
    rw [State.linkHeld_iff, power] at hh
    cases hh

theorem State.Effect.link_arbiter {s t : State} {i : Instr} (hs : s.LinkOk ∧ s.ArbiterOk) (h : s.Effect i t) :
    t.LinkOk ∧ t.ArbiterOk := by
  obtain ⟨hlinkOk, harbiter⟩ := id hs
  obtain ⟨hreplies, hreceiver, hhead, hheld⟩ := id hlinkOk
  cases h with
  | idle => exact hs
  | dispatched _ q k p _ hf _ ht =>
    refine ht.link_arbiter hf.1 ⟨⟨hreplies, rfl, hhead, fun hh => ?_⟩, harbiter.congr rfl rfl rfl rfl rfl⟩
    rw [State.linkHeld_iff, State.afterFrame_power, hf.1] at hh
    cases hh
  | lineHeard _ r e b timer l hok hquiet =>
    refine ⟨⟨hreplies, hok hreceiver, hhead, fun hh => ?_⟩, harbiter.congr rfl rfl rfl rfl rfl⟩
    obtain ⟨hhunting, hbreak, hrest⟩ := hheld hh
    obtain ⟨hr, -, -, htimer⟩ := hquiet hh hhunting
    exact ⟨hr, htimer.trans hbreak, hrest⟩
  | linkReset hlive =>
    exact State.link_arbiter_of_cleared (l := s.link) (by simp) (State.closeSession_opened _ _)
  | noticeEnded =>
    refine State.LinkOk.arbitrate ⟨hreplies, hreceiver, rfl, fun hh => ?_⟩
    obtain ⟨h1, h2, h3, -, h5⟩ := hheld hh
    exact ⟨h1, h2, h3, rfl, h5⟩
  | replyEnded =>
    refine State.LinkOk.arbitrate ⟨?_, hreceiver, rfl, fun hh => ?_⟩
    · exact Nat.le_trans (by simp) hreplies
    · obtain ⟨h1, h2, h3, -, h5⟩ := hheld hh
      exact ⟨h1, h2, by simp [h3], rfl, h5⟩
  | sessionLost =>
    have closed := s.closeSession_opened .noticeTimeout
    refine ⟨hlinkOk.congr (by simp) (by simp) fun _ => closed, fun hh hi => ?_⟩
    obtain ⟨hempty, -⟩ := harbiter (by simpa [State.linkHeld] using hh) (by simpa using hi)
    exact ⟨by simpa using hempty, by rw [State.chooseNotice_isNone_closed closed]; rfl⟩
  | roundBegun => exact State.LinkOk.arbitrate (hlinkOk.congr rfl rfl fun hc => by simp [hc])
  | characterDelivered | settled | contactMoved | debounced | injectionDelivered =>
    exact State.LinkOk.arbitrate (hlinkOk.congr (by simp) (by simp) (by simp))
  | lineSeen | contactPinned | debounceStopped | latchTaken | pulseEnded | trackerExpired | holdoffEnded | hostpwrPinned
  | hostpwrMoved | qualificationStopped => exact State.link_arbiter_congr hs (by simp) (by simp) (by simp) (by simp)
  | powerChanged hdue hp => exact State.powerChange_link_arbiter hlinkOk hp
  | ticked =>
    refine ⟨⟨hreplies, FrameReceiver.tick_ok hreceiver, hhead, fun hh => ?_⟩, harbiter.congr rfl rfl rfl rfl ?_⟩
    · obtain ⟨h1, h2, h3, h4, h5⟩ := hheld hh
      refine ⟨?_, ?_, h3, h4, ?_⟩
      · show s.link.receiver.tick = .hunting
        rw [h1]
        rfl
      · show tickTimer s.link.breakTimer = none
        rw [h2]
        rfl
      · show s.session.opened.map _ = none
        rw [h5]
        rfl
    · show (s.session.opened.map _).map _ = _
      rw [Option.map_map]
      rfl
  | restarted | resetAsserted | poweredOn => exact State.link_arbiter_of_reset rfl rfl rfl

/-- Settles O56: whatever makes a reply or a notice ready ends with the arbiter (`State.LinkOk.arbitrate`) or with an answer
(`State.Answered.link_arbiter`), and a link that comes to be held is cleared (`State.powerChange_link_arbiter`). -/
theorem linkKept : Obligations.LinkKept := fun _ _ hs h =>
  step_keeps (P := fun s => s.LinkOk ∧ s.ArbiterOk) (fun _ _ hs => State.link_arbiter_congr hs rfl rfl rfl rfl)
    (fun _ _ _ hs ht => ht.link_arbiter hs) hs h

end Sys2Proof.Machine
end

section
/-! PROOFS. Contacts, wake outputs and the host-power monitor (chapters 4 and 7): their timers run exactly while they should (R74,
R76, R123, R126, R136). -/
namespace Sys2Proof.Machine

/-- What every dispatched frame keeps of the blocks outside link, queue and session, where every accepted request keeps it. -/
theorem State.Dispatched.keeps_rest {P : State → Prop} {s t : State} {q k : Byte} {p : List Byte}
    (h : s.Dispatched q k p t)
    (hrest : ∀ (u : State) (q : EventQueue) (l : Link) (b : SessionBlock) (c : Nat), P u →
      P { u with queue := q, link := l, session := b, choices := c })
    (haccepted : ∀ kind u, s.Accepted kind u → P u) (hs : P s) : P t := by
  cases h with
  | setAside hfull ht => rw [ht]; exact hrest s s.queue _ s.session s.choices hs
  | refused hroom st h => rw [h.rest]; exact hrest s _ _ _ _ hs
  | repeated hroom r ho hq hk ht =>
    rw [ht, State.arbitrate_eq]
    exact hrest s _ _ _ s.choices hs
  | accepted hroom hq kind hk items s' hneeds ha h =>
    rw [h.rest]
    exact hrest s' _ _ _ _ (haccepted kind s' (answerOf_accepted ha))

/-! ### One contact, one output -/

/-- A contact while RESET is high, with its pin (R74, R76, R77). -/
def Contact.OkAt (c : Contact) (pin : Level) : Prop :=
  (c.timer ≠ none ↔ pin ≠ c.stable) ∧ (c.timer ≠ none → c.config.debounce ≠ 0) ∧ ∀ n ∈ c.timer, n ≤ c.config.debounce

/-- A debounce time that SET_CONTACT takes (R84). -/
def ContactConfig.Ok (c : ContactConfig) : Prop := c.debounce = 0 ∨ c.debounce = 5 ∨ c.debounce = 20 ∨ c.debounce = 50

/-- A contact whose stable level is its pin's. -/
theorem Contact.okAt_stable (cfg : ContactConfig) (pin : Level) :
    Contact.OkAt { config := cfg, stable := pin, timer := none } pin := by simp [Contact.OkAt]

/-- A contact whose pin differs, with its timer just started. -/
theorem Contact.okAt_started {cfg : ContactConfig} {stable pin : Level} (h : pin ≠ stable) (hd : cfg.debounce ≠ 0) :
    Contact.OkAt { config := cfg, stable := stable, timer := some cfg.debounce } pin := by
  simp [Contact.OkAt, h, hd]

theorem State.contactsOk_iff_of_live {s : State} (h : s.resetHeld = false) :
    s.ContactsOk ↔ ∀ k, (s.contacts.get k).config.Ok ∧ (s.contacts.get k).OkAt (s.pins.contacts.get k) := by
  simp only [State.ContactsOk, h, Bool.false_eq_true, if_false]
  exact Iff.rfl

/-- One contact changes, and perhaps its pin. -/
theorem State.ContactsOk.set {s t : State} (h : s.ContactsOk) (hs : s.resetHeld = false) (ht : t.resetHeld = false)
    {k : ContactId} {c : Contact} {pin : Level} (hc : t.contacts = s.contacts.set k c)
    (hp : t.pins.contacts = s.pins.contacts.set k pin) (hcfg : c.config.Ok) (hok : c.OkAt pin) : t.ContactsOk := by
  rw [State.contactsOk_iff_of_live hs] at h
  rw [State.contactsOk_iff_of_live ht, hc, hp]
  intro j
  by_cases hj : k = j
  · subst hj
    simpa using ⟨hcfg, hok⟩
  · simpa [hj] using h j

/-- A wake output under a state of host power (R123, R126). -/
def Wake.OkAt (x : Wake) (p : HostPower) : Prop :=
  x.config.width ≠ 0 ∧ ∀ n ∈ x.pulse,
    x.latch = true ∧ x.config.enable = true ∧ x.config.mode = .pulse ∧ x.config.gateOpen p = true ∧
      n ≤ x.config.width.toNat

theorem Wake.okAt_no_pulse {x : Wake} {p : HostPower} (hw : x.config.width ≠ 0) (hp : x.pulse = none) : x.OkAt p :=
  ⟨hw, by simp [hp]⟩

/-- A pulse starts with its latch, at an enabled PULSE output with open gate (R124). -/
theorem Wake.OkAt.request {x : Wake} {p : HostPower} (h : x.OkAt p) : (x.request p).OkAt p := by
  unfold Wake.request
  split
  next hc =>
    obtain ⟨henable, hgate, -⟩ := hc
    refine ⟨h.1, fun n hn => ?_⟩
    dsimp only at hn
    split at hn
    next => cases hn
    next hmode => cases hn; exact ⟨rfl, henable, hmode, hgate, Nat.le_refl _⟩
  next => exact h

/-- A gate that closes ends the pulse (R132). -/
theorem Wake.OkAt.gateChange {x : Wake} {p : HostPower} (h : x.OkAt p) (p' : HostPower) : (Wake.gateChange p' x).OkAt p' := by
  obtain ⟨hwidth, hpulse⟩ := h
  unfold Wake.gateChange
  split
  next hgate =>
    refine ⟨hwidth, fun n hn => ?_⟩
    obtain ⟨hlatch, henable, hmode, -, hle⟩ := hpulse n hn
    exact ⟨hlatch, henable, hmode, hgate, hle⟩
  next => exact Wake.okAt_no_pulse hwidth rfl

theorem Wake.OkAt.tick {x : Wake} {p : HostPower} (h : x.OkAt p) : Wake.OkAt { x with pulse := tickTimer x.pulse } p := by
  obtain ⟨hwidth, hpulse⟩ := h
  refine ⟨hwidth, fun n hn => ?_⟩
  obtain ⟨m, hm, rfl⟩ := Option.map_eq_some_iff.1 hn
  obtain ⟨hlatch, henable, hmode, hgate, hle⟩ := hpulse m hm
  exact ⟨hlatch, henable, hmode, hgate, Nat.le_trans (Nat.sub_le m 1) hle⟩

/-- One output changes. -/
theorem State.WakesOk.set {s t : State} (h : s.WakesOk) {w : OutputId} {x : Wake} (hw : t.wakes = s.wakes.set w x)
    (hp : t.power.qualified = s.power.qualified) (hx : x.OkAt s.power.qualified) : t.WakesOk := by
  intro v
  dsimp only
  rw [hw, hp]
  by_cases hv : w = v
  · subst hv
    rw [Table.get_set_self]
    exact hx
  · rw [Table.get_set_ne _ hv]
    exact h v

/-! ### All three together -/

theorem State.ContactsOk.congr {s t : State} (h : s.ContactsOk) (hc : t.contacts = s.contacts)
    (hr : t.resetHeld = s.resetHeld) (hk : t.pins.contacts = s.pins.contacts) : t.ContactsOk := by
  rw [State.ContactsOk, hc, hr, hk]
  exact h

theorem State.WakesOk.congr {s t : State} (h : s.WakesOk) (hw : t.wakes = s.wakes) (hp : t.power = s.power) :
    t.WakesOk := by
  rw [State.WakesOk, hw, hp]
  exact h

theorem State.PowerOk.congr {s t : State} (h : s.PowerOk) (hp : t.power = s.power) (hr : t.resetHeld = s.resetHeld)
    (hh : t.pins.hostpwr = s.pins.hostpwr) : t.PowerOk := by
  rw [State.PowerOk, hp, hr, hh]
  exact h

/-- The invariants of the pins: contacts, wake outputs and the host-power monitor. -/
structure State.PinsOk (s : State) : Prop where
  contacts : s.ContactsOk
  wakes : s.WakesOk
  power : s.PowerOk

/-- A command that leaves the three blocks, the pins that they read, and the reset as they were. -/
theorem State.PinsOk.congr {s t : State} (h : s.PinsOk) (hc : t.contacts = s.contacts) (hw : t.wakes = s.wakes)
    (hp : t.power = s.power) (hr : t.resetHeld = s.resetHeld) (hk : t.pins.contacts = s.pins.contacts)
    (hh : t.pins.hostpwr = s.pins.hostpwr) : t.PinsOk := by
  obtain ⟨hcontacts, hwakes, hpower⟩ := h
  exact ⟨hcontacts.congr hc hr hk, hwakes.congr hw hp, hpower.congr hp hr hh⟩

/-- Held in reset, host power counts as ABSENT. -/
theorem State.PowerOk.live {s : State} (h : s.PowerOk) (hp : s.power.qualified = .present) : s.resetHeld = false := by
  cases hr : s.resetHeld with
  | false => rfl
  | true => simp_all [State.PowerOk]

theorem State.stableChange_contacts (s : State) (k : ContactId) (l : Level) :
    (s.stableChange k l).contacts =
      s.contacts.set k { config := (s.contacts.get k).config, stable := l, timer := none } := by
  simp [State.stableChange]

/-- A stable change leaves the contact at rest (R75). -/
theorem State.PinsOk.stableChange {s : State} (h : s.PinsOk) (hlive : s.resetHeld = false) (k : ContactId) :
    (s.stableChange k (s.pins.contacts.get k)).PinsOk where
  contacts := by
    refine h.contacts.set hlive (by simpa using hlive) (s.stableChange_contacts k _) (pin := s.pins.contacts.get k)
      (by simp) ?_ (Contact.okAt_stable _ _)
    exact ((State.contactsOk_iff_of_live hlive).1 h.contacts k).1
  wakes := h.wakes.congr (by simp) (by simp)
  power := h.power.congr (by simp) (by simp) (by simp)

/-- A pin change: the timer stops at a return, and starts at a departure, or with debounce time 0 the level is stable at once
(R76, R77). -/
theorem State.PinsOk.contactPin {s : State} (h : s.PinsOk) (hlive : s.resetHeld = false) (k : ContactId) (l : Level) :
    ((s.setContactPin k l).contactPin k l).PinsOk where
  contacts := by
    obtain ⟨hcfg, hiff, hzero, hle⟩ := (State.contactsOk_iff_of_live hlive).1 h.contacts k
    unfold State.contactPin
    dsimp only
    split
    next hl =>
      refine h.contacts.set hlive hlive rfl (pin := l) rfl hcfg ?_
      rw [hl]
      exact Contact.okAt_stable _ _
    next hl =>
      split
      next =>
        exact h.contacts.set hlive (by simpa using hlive) (State.stableChange_contacts _ k l) (pin := l) (by simp) hcfg
          (Contact.okAt_stable _ _)
      next hd =>
        split
        next => exact h.contacts.set hlive hlive rfl (pin := l) rfl hcfg (Contact.okAt_started hl hd)
        next n hn =>
          refine h.contacts.set hlive hlive (c := s.contacts.get k) (by simp) (pin := l) rfl hcfg ?_
          have running : (s.contacts.get k).timer = some n := hn
          exact ⟨iff_of_true (by simp [running]) hl, hzero, hle⟩
  wakes := h.wakes.congr (by simp) (by simp)
  power := h.power.congr (by simp) (by simp) (by simp)

/-- SET_CONTACT: a timer that runs starts again at the new time, or ends with a stable change (R84). -/
theorem State.PinsOk.configureContact {s : State} (h : s.PinsOk) (hlive : s.resetHeld = false) (k : ContactId)
    {cfg : ContactConfig} (hcfg : cfg.Ok) : (s.configureContact k cfg).PinsOk where
  contacts := by
    obtain ⟨-, hiff, -, -⟩ := (State.contactsOk_iff_of_live hlive).1 h.contacts k
    unfold State.configureContact
    dsimp only
    split
    next hn =>
      refine h.contacts.set hlive hlive rfl (pin := s.pins.contacts.get k) (by simp) hcfg ?_
      rw [hn] at hiff
      refine ⟨by simpa [hn] using hiff, by simp [hn], by simp [hn]⟩
    next n hn =>
      split
      next =>
        refine h.contacts.set (k := k) hlive (by simpa using hlive)
          (c := { config := cfg, stable := s.pins.contacts.get k, timer := none }) ?_ (pin := s.pins.contacts.get k)
          (by simp) hcfg (Contact.okAt_stable _ _)
        rw [State.stableChange_contacts]
        simp
      next hd =>
        refine h.contacts.set (k := k) hlive hlive
          (c := { config := cfg, stable := (s.contacts.get k).stable, timer := some cfg.debounce }) ?_
          (pin := s.pins.contacts.get k) (by simp) hcfg (Contact.okAt_started (hiff.1 (by simp [hn])) hd)
        simp [Table.modify]
  wakes := h.wakes.congr (by simp) (by simp)
  power := h.power.congr (by simp) (by simp) (by simp)

/-- Other wake outputs, with the rest as it was. -/
theorem State.PinsOk.withWakes {s t : State} (h : s.PinsOk) (hw : t.WakesOk) (hc : t.contacts = s.contacts)
    (hp : t.power = s.power) (hr : t.resetHeld = s.resetHeld) (hpins : t.pins = s.pins) : t.PinsOk := by
  refine ⟨?_, hw, ?_⟩
  · rw [State.ContactsOk, hc, hr, hpins]
    exact h.contacts
  · rw [State.PowerOk, hp, hr, hpins]
    exact h.power

theorem State.Accepted.pinsOk {s t : State} {k : Kind} (h : s.Accepted k t) (hs : s.PinsOk) (hlive : s.resetHeld = false) :
    t.PinsOk := by
  cases h with
  | contactSet k cfg hcfg => exact hs.configureContact hlive k hcfg
  | wakeSet w cfg hwidth =>
    exact hs.withWakes (hs.wakes.set rfl rfl (Wake.okAt_no_pulse hwidth rfl)) rfl rfl rfl rfl
  | wakesCleared set =>
    refine hs.withWakes (fun w => ?_) rfl rfl rfl rfl
    dsimp only
    rw [Table.get_tabulate]
    split
    · exact Wake.okAt_no_pulse (hs.wakes w).1 rfl
    · exact hs.wakes w
  | sessionOpened =>
    refine hs.withWakes (fun w => ?_) (by simp) (by simp) (by simp) (by simp)
    dsimp only
    simp only [State.autoClear_wakes, State.autoClear_power, State.closeSession_frame, Table.get_map]
    split
    · exact Wake.okAt_no_pulse (hs.wakes w).1 rfl
    · exact hs.wakes w
  | unchanged | sessionClosed | noticesHeld | noticesReleased | clockLoaded | sourceSet | injected | injectCancelled
  | patternDefined | patternArmed | patternStopped | patternErased | hitsCleared | flushed =>
    exact hs.congr (by simp) (by simp) (by simp) (by simp) (by simp) (by simp)
  | acknowledged n gone rest =>
    exact hs.congr (foldl_keeps State.recordLeaves State.contacts (by simp) gone s)
      (foldl_keeps State.recordLeaves State.wakes (by simp) gone s) (by simp) (by simp) (by simp) (by simp)

/-- The reset sequence: contacts stable at their pins, outputs at rest, and qualification begun at a HIGH input (R74, R135). -/
theorem State.pinsOk_startUp (s : State) (rate : LinkRate) (cause : StartCause) : (s.startUp rate cause).PinsOk where
  contacts := by
    rw [State.contactsOk_iff_of_live rfl]
    intro k
    show ContactConfig.Ok ((s.pins.contacts.map resetContact).get k).config ∧
      Contact.OkAt ((s.pins.contacts.map resetContact).get k) (s.pins.contacts.get k)
    rw [Table.get_map]
    exact ⟨.inr (.inr (.inl rfl)), Contact.okAt_stable _ _⟩
  wakes := by
    intro w
    exact Wake.okAt_no_pulse (by simp [State.startUp, State.resetBlocks, State.reset, resetWake])
      (by simp [State.startUp, State.resetBlocks, State.reset, resetWake])
  power := by
    have timer : (s.startUp rate cause).power =
        { qualified := .absent, timer := match s.pins.hostpwr with
          | .high => some 10
          | .low => none } := rfl
    have level : (s.startUp rate cause).pins.hostpwr = s.pins.hostpwr := rfl
    rw [State.PowerOk, timer, level, if_neg (show ¬((s.startUp rate cause).resetHeld = true) from nofun)]
    cases s.pins.hostpwr <;> simp [powerOf]

/-- The fall of RESET: every timer is stopped and host power counts as ABSENT (R135, R182). -/
theorem State.pinsOk_resetAsserted (s : State) (rate : LinkRate) :
    State.PinsOk { s.resetBlocks rate with resetHeld := true } where
  contacts := by
    intro k
    show ContactConfig.Ok ((s.pins.contacts.map resetContact).get k).config ∧
      ((s.pins.contacts.map resetContact).get k).timer = none
    rw [Table.get_map]
    exact ⟨.inr (.inr (.inl rfl)), rfl⟩
  wakes := by
    intro w
    exact Wake.okAt_no_pulse (by simp [State.resetBlocks, State.reset, resetWake])
      (by simp [State.resetBlocks, State.reset, resetWake])
  power := rfl

/-- One millisecond (R76, R126, R136). -/
theorem State.PinsOk.tick {s : State} (h : s.PinsOk) (hlive : s.resetHeld = false) :
    State.PinsOk { s.tickTimers with clock := s.clock + 1 } where
  contacts := by
    refine (State.contactsOk_iff_of_live (s := { s.tickTimers with clock := s.clock + 1 }) hlive).2 fun k => ?_
    obtain ⟨hcfg, hiff, hzero, hle⟩ := (State.contactsOk_iff_of_live hlive).1 h.contacts k
    simp only [State.tickTimers, Table.get_map]
    have running : tickTimer (s.contacts.get k).timer ≠ none ↔ (s.contacts.get k).timer ≠ none := by
      simp [tickTimer]
    refine ⟨hcfg, running.trans hiff, fun hr => hzero (running.1 hr), fun n hn => ?_⟩
    obtain ⟨m, hm, rfl⟩ := Option.map_eq_some_iff.1 hn
    exact Nat.le_trans (Nat.sub_le m 1) (hle m hm)
  wakes := by
    intro w
    dsimp only
    simp only [State.tickTimers, Table.get_map]
    exact Wake.OkAt.tick (h.wakes w)
  power := by
    have hpower := h.power
    simp only [State.PowerOk, State.tickTimers, hlive, Bool.false_eq_true, if_false] at hpower ⊢
    refine ⟨Iff.trans (by simp [tickTimer]) hpower.1, fun n hn => ?_⟩
    obtain ⟨m, hm, rfl⟩ := Option.map_eq_some_iff.1 hn
    exact Nat.le_trans (Nat.sub_le m 1) (hpower.2 m hm)

/-- A change of HOSTPWR starts the timer where the input departs from the qualified state, and stops it where it agrees (R136). -/
theorem State.PowerOk.hostpwrMoved {s : State} (h : s.PowerOk) (hlive : s.resetHeld = false) (l : Level) :
    State.PowerOk { s with
      pins := { s.pins with hostpwr := l }
      power := { s.power with
        timer := if powerOf l = s.power.qualified then none else some (s.power.timer.getD Config.qualificationTime) } } := by
  simp only [State.PowerOk, hlive, Bool.false_eq_true, if_false] at h ⊢
  split
  next hp => simp [hp]
  next hp =>
    refine ⟨by simp [hp], ?_⟩
    rintro _ ⟨⟩
    cases ht : s.power.timer with
    | none => exact Nat.le_refl _
    | some n => exact h.2 n ht

/-- A qualified change of host power (R132, R137). -/
theorem State.PinsOk.powerChange {s : State} (h : s.PinsOk) (hlive : s.resetHeld = false) :
    (s.powerChange (powerOf s.pins.hostpwr)).PinsOk where
  contacts := h.contacts.congr (by simp) (by simp) (by simp)
  wakes := by
    intro w
    have changed : (s.powerChange (powerOf s.pins.hostpwr)).wakes = s.wakes.map (Wake.gateChange (powerOf s.pins.hostpwr)) := by
      simp [State.powerChange]
    have power : (s.powerChange (powerOf s.pins.hostpwr)).power.qualified = powerOf s.pins.hostpwr := by
      simp [State.powerChange]
    dsimp only
    rw [changed, power, Table.get_map]
    exact Wake.OkAt.gateChange (h.wakes w) _
  power := by
    have power : (s.powerChange (powerOf s.pins.hostpwr)).power = { qualified := powerOf s.pins.hostpwr, timer := none } := by
      simp [State.powerChange]
    simp [State.PowerOk, power, hlive]

theorem State.Effect.pinsOk {s t : State} {i : Instr} (hs : s.PinsOk) (h : s.Effect i t) : t.PinsOk := by
  cases h with
  | idle => exact hs
  | dispatched _ q k p _ hf _ ht =>
    have framed : s.afterFrame.PinsOk := hs.congr rfl rfl rfl rfl rfl rfl
    exact ht.keeps_rest (fun u _ _ _ _ hu => hu.congr rfl rfl rfl rfl rfl rfl)
      (fun kind u hu => hu.pinsOk framed (framed.power.live hf.1)) framed
  | contactPinned k l hheld =>
    refine ⟨fun j => ?_, hs.wakes, hs.power⟩
    obtain ⟨hcfg, htimer⟩ := hs.contacts j
    rw [if_pos hheld] at htimer
    exact ⟨hcfg, (if_pos hheld).mpr htimer⟩
  | contactMoved k l hlive =>
    exact (hs.contactPin hlive k l).congr (by simp) (by simp) (by simp) (by simp) (by simp) (by simp)
  | debounceStopped k hdue hpin =>
    obtain ⟨hcfg, hok⟩ := hs.contacts k
    split at hok
    next => simp [hdue] at hok
    next => exact absurd hpin (hok.1.1 (by simp [hdue]))
  | debounced k hdue =>
    have hlive : s.resetHeld = false := by
      obtain ⟨-, hok⟩ := hs.contacts k
      cases hr : s.resetHeld with
      | false => rfl
      | true => simp [hr, hdue] at hok
    exact (hs.stableChange hlive k).congr (by simp) (by simp) (by simp) (by simp) (by simp) (by simp)
  | latchTaken w => exact hs.withWakes (hs.wakes.set rfl rfl (Wake.OkAt.request (hs.wakes w))) rfl rfl rfl rfl
  | pulseEnded w hdue =>
    exact hs.withWakes (hs.wakes.set rfl rfl (Wake.okAt_no_pulse (hs.wakes w).1 rfl)) rfl rfl rfl rfl
  | hostpwrPinned l hheld =>
    refine ⟨hs.contacts, hs.wakes, ?_⟩
    have := hs.power
    rw [State.PowerOk, if_pos hheld] at this
    exact (if_pos hheld).mpr this
  | hostpwrMoved l hlive => exact ⟨hs.contacts, hs.wakes, hs.power.hostpwrMoved hlive l⟩
  | qualificationStopped hdue hp =>
    have hpower := hs.power
    unfold State.PowerOk at hpower
    split at hpower
    next => simp [hpower] at hdue
    next => exact absurd hp (hpower.1.1 (by simp [hdue]))
  | powerChanged hdue hp =>
    have hlive : s.resetHeld = false := by
      have hpower := hs.power
      cases hr : s.resetHeld with
      | false => rfl
      | true => simp [State.PowerOk, hr] at hpower; simp [hpower] at hdue
    exact hs.powerChange hlive
  | ticked hlive => exact hs.tick hlive
  | resetAsserted => exact s.pinsOk_resetAsserted _
  | restarted | poweredOn => exact State.pinsOk_startUp _ _ _
  | lineHeard | linkReset | noticeEnded | replyEnded | sessionLost | roundBegun | lineSeen | characterDelivered | settled
  | injectionDelivered | trackerExpired | holdoffEnded =>
    exact hs.congr (by simp) (by simp) (by simp) (by simp) (by simp) (by simp)

/-- Settles O55: each pin change, expiry, request and qualified change leaves contacts, outputs and monitor legal
(`State.Effect.pinsOk`); every other command leaves them as they are. -/
theorem pinsKept : Obligations.PinsKept := fun _ _ ⟨hc, hw, hp⟩ h =>
  have kept := step_keeps (P := State.PinsOk) (fun _ _ hs => hs.congr rfl rfl rfl rfl rfl rfl)
    (fun _ _ _ hs ht => ht.pinsOk hs) ⟨hc, hw, hp⟩ h
  ⟨kept.contacts, kept.wakes, kept.power⟩

end Sys2Proof.Machine
end

section
/-! PROOFS. A qualified change of host power (R137): what the serial sources' responses, one after the other, come to, and with
it the whole change. -/
namespace Sys2Proof.Machine

/-! ### One serial source's response (R69, R70) -/

/-- The response of one serial source to a qualified change. -/
def State.follow (p : HostPower) (s : State) (i : SerialId) : State :=
  match p with
  | .absent => s.losePower i
  | .present => s.gainPower i

theorem State.sourcesFollow_eq (s : State) (p : HostPower) : s.sourcesFollow p = (List.finRange 6).foldl (State.follow p) s := by
  cases p <;> rfl

/-- The state that a source which follows host power is taken to. -/
def followTarget (p : HostPower) (c : SourceConfig) : SourceState :=
  if p = .absent then .off else if c.settleTime = 0 then .listening else .settling c.settleTime

/-- The receiver of a source which follows host power. -/
def followReceiver (p : HostPower) (line : Level) : Receiver :=
  if p = .absent then .stopped else if line = .high then .hunting else .waiting

/-- The event queue after one serial source's response. -/
def State.followRecord (s : State) (p : HostPower) (q : EventQueue) (i : SerialId) : EventQueue :=
  if s.followsPower i = true ∧ (s.sources.get (sourceOf i)).config.reporting = true ∧
      (p = .absent ∨ (s.sources.get (sourceOf i)).config.settleTime = 0) then
    q.offer s.clock (.sourceState (sourceOf i) (if p = .absent then .offHostPower else .listeningSettled))
  else q

/-- A source among those of `l` that a change to ABSENT takes out of LISTENING. -/
abbrev State.Leaves (s : State) (p : HostPower) (l : List SerialId) (src : SourceId) : Prop :=
  p = .absent ∧ (s.sources.get src).state = .listening ∧ ∃ i ∈ l, src = sourceOf i ∧ s.followsPower i = true

/-- What the responses of the serial sources of `l` come to. -/
structure State.Followed (s : State) (p : HostPower) (l : List SerialId) (t : State) : Prop where
  rest : t = { s with
    queue := l.foldl (s.followRecord p) s.queue, sources := t.sources, serials := t.serials, trackers := t.trackers
    holdoffs := t.holdoffs }
  source : ∀ src, t.sources.get src =
    if ∃ i ∈ l, src = sourceOf i ∧ s.followsPower i = true then
      { s.sources.get src with state := followTarget p (s.sources.get src).config }
    else s.sources.get src
  serial : ∀ i, t.serials.get i =
    if i ∈ l ∧ s.followsPower i = true then { s.serials.get i with receiver := followReceiver p (s.pins.lines.get i) }
    else s.serials.get i
  tracker : ∀ x, t.trackers.get x = (s.trackers.get x).filter fun u => !decide (s.Leaves p l u.source)
  holdoff : ∀ y src, (t.holdoffs.get y).get src = if s.Leaves p l src then none else (s.holdoffs.get y).get src

/-- The state in which a qualified change finds a serial source that follows host power (R61). -/
def State.ReadyToFollow (s : State) (p : HostPower) (i : SerialId) : Prop :=
  s.followsPower i = true →
    (p = .absent → (s.sources.get (sourceOf i)).state = .listening ∨ ∃ n, (s.sources.get (sourceOf i)).state = .settling n) ∧
    (p = .present → (s.sources.get (sourceOf i)).state = .off ∧ (s.serials.get i).receiver = .stopped)

theorem sourceOf_inj {i j : SerialId} : sourceOf i = sourceOf j ↔ i = j :=
  ⟨fun h => by simpa using congrArg serialOf? h, fun h => h ▸ rfl⟩

/-- Two choices between the same values, under equivalent conditions. -/
theorem ite_eq_of_iff {α : Type} {b c : Prop} [Decidable b] [Decidable c] (h : b ↔ c) {x y : α} :
    (if b then x else y) = if c then x else y :=
  ite_congr (propext h) (fun _ => rfl) fun _ => rfl

theorem optionFilter_true {α : Type} (o : Option α) : o.filter (fun _ => true) = o := by cases o <;> rfl

theorem State.Followed.nil (s : State) (p : HostPower) : s.Followed p [] s :=
  ⟨rfl, by simp, by simp, by simp [State.Leaves, optionFilter_true], by simp [State.Leaves]⟩

/-- A source that does not follow host power is passed by. -/
theorem State.Followed.unmoved {s : State} {p : HostPower} {i : SerialId} (h : s.followsPower i = false) :
    s.Followed p [i] s :=
  ⟨by simp [State.followRecord, h], by simp [h], by simp +contextual [h], by simp [State.Leaves, h, optionFilter_true],
    by simp [State.Leaves, h]⟩

/-- A source goes to OFF: its receiver stops, and from LISTENING or TEST its trackers and holdoffs go (R48, R64). -/
theorem State.goOff_eq (s : State) (src : SourceId) :
    s.goOff src =
      if (s.sources.get src).state = .listening ∨ (s.sources.get src).state = .test then
        ((s.setSourceState src .off).setReceiver src fun _ _ => .stopped).sourceOffRelease src
      else (s.setSourceState src .off).setReceiver src fun _ _ => .stopped := by
  unfold State.goOff
  cases (s.sources.get src).state <;> simp

theorem State.goOff_sources (s : State) (src : SourceId) :
    (s.goOff src).sources = s.sources.set src { s.sources.get src with state := .off } := by
  rw [State.goOff_eq]
  split <;> simp [Table.modify]

theorem State.goOff_serials (s : State) (i : SerialId) :
    (s.goOff (sourceOf i)).serials = s.serials.set i { s.serials.get i with receiver := .stopped } := by
  rw [State.goOff_eq]
  split <;> simp [State.setReceiver_serial]

theorem State.goOff_trackers_get (s : State) (src : SourceId) (x : TrackerId) :
    (s.goOff src).trackers.get x = (s.trackers.get x).filter fun u =>
      !decide (((s.sources.get src).state = .listening ∨ (s.sources.get src).state = .test) ∧ u.source = src) := by
  rw [State.goOff_eq]
  split
  next h => simp [State.sourceOffRelease, h]
  next h => simp [h, optionFilter_true]

theorem State.goOff_holdoffs_get (s : State) (src : SourceId) (y : PatternId) (c : SourceId) :
    ((s.goOff src).holdoffs.get y).get c =
      if ((s.sources.get src).state = .listening ∨ (s.sources.get src).state = .test) ∧ c = src then none
      else (s.holdoffs.get y).get c := by
  rw [State.goOff_eq]
  split
  next h => simp only [State.sourceOffRelease, h, State.clearSourceHoldoffs_holdoffs, Table.get_map, Table.get_set,
      eq_comm (a := c), true_and, State.releaseTrackers_holdoffs, State.setReceiver_frame, State.setSourceState_holdoffs]
  next h => simp [h]

/-- What a source's going OFF leaves as it was. -/
theorem State.goOff_rest (s : State) (src : SourceId) :
    s.goOff src = { s with
      sources := (s.goOff src).sources, serials := (s.goOff src).serials, trackers := (s.goOff src).trackers
      holdoffs := (s.goOff src).holdoffs } := by
  rw [State.goOff_eq]
  unfold State.setReceiver
  cases serialOf? src <;> split <;> rfl

/-- The SOURCE_STATE record of a change changes the event queue alone (R68). -/
theorem State.reportSource_eq (s : State) (src : SourceId) (ch : SourceChange) :
    s.reportSource src ch = { s with
      queue := if (s.sources.get src).config.reporting = true then s.queue.offer s.clock (.sourceState src ch)
        else s.queue } := by
  unfold State.reportSource State.offerIf
  split <;> rfl

/-- One serial source's response, said of each block. -/
theorem State.Followed.single {s u : State} {p : HostPower} {i : SerialId} (h : s.followsPower i = true)
    (hrest : u = { s with
      queue := s.followRecord p s.queue i, sources := u.sources, serials := u.serials, trackers := u.trackers
      holdoffs := u.holdoffs })
    (hsource : u.sources = s.sources.set (sourceOf i)
      { s.sources.get (sourceOf i) with state := followTarget p (s.sources.get (sourceOf i)).config })
    (hserial : u.serials = s.serials.set i { s.serials.get i with receiver := followReceiver p (s.pins.lines.get i) })
    (htracker : ∀ x, u.trackers.get x = (s.trackers.get x).filter fun v =>
      !decide ((p = .absent ∧ (s.sources.get (sourceOf i)).state = .listening) ∧ v.source = sourceOf i))
    (hholdoff : ∀ y src, (u.holdoffs.get y).get src =
      if (p = .absent ∧ (s.sources.get (sourceOf i)).state = .listening) ∧ src = sourceOf i then none
      else (s.holdoffs.get y).get src) : s.Followed p [i] u := by
  have leaves : ∀ src, s.Leaves p [i] src ↔
      (p = .absent ∧ (s.sources.get (sourceOf i)).state = .listening) ∧ src = sourceOf i := by
    intro src
    simp only [State.Leaves, List.mem_singleton, exists_eq_left, h, and_true]
    constructor
    · rintro ⟨hp, hst, rfl⟩
      exact ⟨⟨hp, hst⟩, rfl⟩
    · rintro ⟨⟨hp, hst⟩, rfl⟩
      exact ⟨hp, hst, rfl⟩
  refine ⟨hrest, fun src => ?_, fun j => ?_, fun x => ?_, fun y src => ?_⟩
  · rw [hsource]
    by_cases hsrc : src = sourceOf i
    · subst hsrc
      simp [h]
    · simp [hsrc, Ne.symm hsrc]
  · rw [hserial]
    by_cases hj : j = i
    · subst hj
      simp [h]
    · simp [hj, Ne.symm hj]
  · simp only [htracker, leaves]
  · simp only [hholdoff, leaves]

/-- A change to ABSENT (R69). -/
theorem State.Followed.lost {s : State} {i : SerialId} (h : s.followsPower i = true)
    (hst : (s.sources.get (sourceOf i)).state = .listening ∨ ∃ n, (s.sources.get (sourceOf i)).state = .settling n) :
    s.Followed .absent [i] (s.losePower i) := by
  have fires : s.losePower i = (s.goOff (sourceOf i)).reportSource (sourceOf i) .offHostPower := by
    unfold State.losePower
    rw [if_pos h]
    obtain hst | ⟨n, hst⟩ := hst <;> rw [hst]
  have notTest : (s.sources.get (sourceOf i)).state ≠ .test := by
    obtain hst | ⟨n, hst⟩ := hst <;> simp [hst]
  rw [fires]
  refine State.Followed.single h ?_ ?_ ?_ (fun x => ?_) (fun y src => ?_)
  · rw [State.reportSource_eq, State.goOff_rest]
    simp [State.followRecord, h, State.goOff_sources]
  · simp [State.goOff_sources, followTarget]
  · simp [State.goOff_serials, followReceiver]
  · simp [State.goOff_trackers_get, notTest]
  · simp [State.goOff_holdoffs_get, notTest]

/-- Entry to LISTENING: its receiver, and its record with reporting yes (R65, R66, R68). -/
theorem State.enterListening_serial (s : State) (i : SerialId) :
    s.enterListening (sourceOf i) = { s with
      sources := s.sources.set (sourceOf i) { s.sources.get (sourceOf i) with state := .listening }
      serials := s.serials.set i { s.serials.get i with
        receiver := receiverAtListening (s.pins.lines.get i) (s.serials.get i).receiver }
      queue := if (s.sources.get (sourceOf i)).config.reporting = true then
          s.queue.offer s.clock (.sourceState (sourceOf i) .listeningSettled)
        else s.queue } := by
  unfold State.enterListening
  rw [State.reportSource_eq, State.setReceiver_serial]
  simp [State.setSourceState_eq]

theorem receiverAt_eq (l : Level) : receiverAt l = if l = .high then .hunting else .waiting := by cases l <;> rfl

/-- Entry to SETTLING, or at once to LISTENING, of a serial source whose receiver is stopped (R65, R70). -/
theorem State.enterSettling_serial {s : State} {i : SerialId} (hr : (s.serials.get i).receiver = .stopped) :
    s.enterSettling (sourceOf i) = { s with
      sources := s.sources.set (sourceOf i)
        { s.sources.get (sourceOf i) with state := followTarget .present (s.sources.get (sourceOf i)).config }
      serials := s.serials.set i { s.serials.get i with receiver := followReceiver .present (s.pins.lines.get i) }
      queue :=
        if (s.sources.get (sourceOf i)).config.settleTime = 0 ∧ (s.sources.get (sourceOf i)).config.reporting = true then
          s.queue.offer s.clock (.sourceState (sourceOf i) .listeningSettled)
        else s.queue } := by
  unfold State.enterSettling
  dsimp only
  split
  next ht =>
    rw [State.enterListening_serial, hr]
    simp [followTarget, followReceiver, ht, receiverAtListening, receiverAt_eq]
  next ht =>
    rw [State.setReceiver_serial, State.setSourceState_eq]
    simp [followTarget, followReceiver, ht, receiverAt_eq]

/-- A change to PRESENT (R70). -/
theorem State.Followed.gained {s : State} {i : SerialId} (h : s.followsPower i = true)
    (hst : (s.sources.get (sourceOf i)).state = .off) (hr : (s.serials.get i).receiver = .stopped) :
    s.Followed .present [i] (s.gainPower i) := by
  have fires : s.gainPower i = s.enterSettling (sourceOf i) := if_pos ⟨h, hst⟩
  rw [fires, State.enterSettling_serial hr]
  refine State.Followed.single h ?_ rfl rfl (fun x => ?_) (fun y src => ?_)
  · simp [State.followRecord, h, and_comm]
  · simp [optionFilter_true]
  · simp

/-- One serial source's response to a qualified change (R69, R70). -/
theorem State.followed_one {s : State} {p : HostPower} {i : SerialId} (hready : s.ReadyToFollow p i) :
    s.Followed p [i] (s.follow p i) := by
  cases hf : s.followsPower i with
  | false =>
    have idle : s.follow p i = s := by cases p <;> simp [State.follow, State.losePower, State.gainPower, hf]
    rw [idle]
    exact .unmoved hf
  | true =>
    obtain ⟨habsent, hpresent⟩ := hready hf
    cases p with
    | absent => exact .lost hf (habsent rfl)
    | present => exact .gained hf (hpresent rfl).1 (hpresent rfl).2

/-! ### All of them (R137) -/

/-- Responses leave every source's configuration. -/
theorem State.Followed.config {s u : State} {p : HostPower} {l : List SerialId} (h : s.Followed p l u) (src : SourceId) :
    (u.sources.get src).config = (s.sources.get src).config := by
  rw [h.source]
  split <;> rfl

theorem State.Followed.line {s u : State} {p : HostPower} {l : List SerialId} (h : s.Followed p l u) (i : SerialId) :
    (u.serials.get i).line = (s.serials.get i).line := by
  rw [h.serial]
  split <;> rfl

theorem State.Followed.followsPower {s u : State} {p : HostPower} {l : List SerialId} (h : s.Followed p l u)
    (i : SerialId) : u.followsPower i = s.followsPower i := by
  simp only [State.followsPower, h.config, h.line]

theorem State.Followed.followRecord {s u : State} {p : HostPower} {l : List SerialId} (h : s.Followed p l u) :
    u.followRecord p = s.followRecord p := by
  funext q i
  have clock : u.clock = s.clock := by rw [h.rest]
  simp only [State.followRecord, h.config, h.followsPower, clock]

/-- A source that is not among those of `l` is untouched. -/
theorem State.Followed.source_other {s u : State} {p : HostPower} {l : List SerialId} (h : s.Followed p l u)
    {src : SourceId} (hsrc : ∀ i ∈ l, src ≠ sourceOf i) : u.sources.get src = s.sources.get src := by
  rw [h.source, if_neg]
  rintro ⟨i, hi, rfl, -⟩
  exact hsrc i hi rfl

theorem State.Followed.readyToFollow {s u : State} {p : HostPower} {i j : SerialId} (h : s.Followed p [i] u) (hij : j ≠ i)
    (hready : s.ReadyToFollow p j) : u.ReadyToFollow p j := by
  have source : u.sources.get (sourceOf j) = s.sources.get (sourceOf j) :=
    h.source_other (by simpa [sourceOf_inj] using hij)
  have serial : u.serials.get j = s.serials.get j := by
    rw [h.serial, if_neg]
    simp [hij]
  rw [State.ReadyToFollow, h.followsPower, source, serial]
  exact hready

/-- One response, and then those of other sources. -/
theorem State.Followed.cons {s u t : State} {p : HostPower} {i : SerialId} {l : List SerialId} (h : s.Followed p [i] u)
    (hl : u.Followed p l t) (hi : i ∉ l) : s.Followed p (i :: l) t := by
  have untouched : ∀ src, (∃ j ∈ l, src = sourceOf j ∧ s.followsPower j = true) → u.sources.get src = s.sources.get src := by
    rintro _ ⟨j, hj, rfl, -⟩
    exact h.source_other (by simpa [sourceOf_inj] using fun (e : j = i) => hi (e ▸ hj))
  have leaves : ∀ src, s.Leaves p (i :: l) src ↔ s.Leaves p [i] src ∨ u.Leaves p l src := by
    intro src
    have later : u.Leaves p l src ↔
        p = .absent ∧ (s.sources.get src).state = .listening ∧ ∃ j ∈ l, src = sourceOf j ∧ s.followsPower j = true := by
      simp only [State.Leaves, h.followsPower]
      refine and_congr_right fun _ => and_congr_left fun hj => ?_
      rw [untouched src hj]
    rw [later]
    simp only [State.Leaves, List.mem_cons, List.not_mem_nil, or_false, exists_eq_left, exists_eq_or_imp]
    rw [and_or_left, and_or_left]
  refine ⟨?_, fun src => ?_, fun j => ?_, fun x => ?_, fun y src => ?_⟩
  · rw [hl.rest, h.followRecord, h.rest]
    simp
  · rw [hl.source]
    simp only [h.followsPower, List.mem_cons, exists_eq_or_imp]
    by_cases hsrc : ∃ j ∈ l, src = sourceOf j ∧ s.followsPower j = true
    · rw [if_pos hsrc, if_pos (.inr hsrc), untouched src hsrc]
    · rw [if_neg hsrc, h.source]
      simp [hsrc]
  · rw [hl.serial, h.serial]
    have lines : u.pins = s.pins := by rw [h.rest]
    simp only [h.followsPower, lines, List.mem_cons, List.not_mem_nil, or_false]
    by_cases hj : j ∈ l
    · have hne : j ≠ i := fun e => hi (e ▸ hj)
      simp [hj, hne]
    · simp [hj]
  · rw [hl.tracker, h.tracker, Option.filter_filter]
    simp only [leaves, Bool.decide_or, Bool.not_or]
  · rw [hl.holdoff, h.holdoff]
    simp only [leaves]
    by_cases h2 : u.Leaves p l src
    · rw [if_pos h2, if_pos (.inr h2)]
    · rw [if_neg h2]
      exact ite_eq_of_iff (or_iff_left h2).symm

theorem State.followed_foldl {s : State} {p : HostPower} {l : List SerialId} (hl : l.Nodup)
    (hready : ∀ i ∈ l, s.ReadyToFollow p i) : s.Followed p l (l.foldl (State.follow p) s) := by
  induction l generalizing s with
  | nil => exact .nil s p
  | cons i l ih =>
    rw [List.nodup_cons] at hl
    have one := State.followed_one (hready i (by simp))
    refine one.cons (ih hl.2 fun j hj => one.readyToFollow ?_ (hready j (by simp [hj]))) hl.1
    exact fun e => hl.1 (e ▸ hj)

/-- The serial sources' responses, whole. -/
theorem State.followed {s : State} {p : HostPower} (hready : ∀ i, s.ReadyToFollow p i) :
    s.Followed p (List.finRange 6) (s.sourcesFollow p) := by
  rw [State.sourcesFollow_eq]
  exact State.followed_foldl (List.nodup_finRange 6) fun i _ => hready i

/-- The state in which the responses begin: the new qualified state, and the POWER record offered (R137). -/
def State.powered (s : State) (p : HostPower) : State :=
  ({ s with power := { qualified := p, timer := none } } : State).offer (.power p)

/-- A legal state is ready for the change to the other qualified state (R61, R55). -/
theorem State.SourcesOk.readyToFollow {s : State} (h : s.SourcesOk) {p : HostPower} (hp : s.power.qualified ≠ p)
    (i : SerialId) : (s.powered p).ReadyToFollow p i := by
  intro hf
  change s.followsPower i = true at hf
  obtain ⟨henable, hmode, hdomain⟩ : (s.sources.get (sourceOf i)).config.enable = true ∧
      (s.sources.get (sourceOf i)).config.mode = .live ∧ (s.serials.get i).line.domain = .host := by
    simpa [State.followsPower] using hf
  have allowed := h.1 (sourceOf i)
  have receiver := h.2 i
  change (p = .absent → (s.sources.get (sourceOf i)).state = .listening ∨
      ∃ n, (s.sources.get (sourceOf i)).state = .settling n) ∧
    (p = .present → (s.sources.get (sourceOf i)).state = .off ∧ (s.serials.get i).receiver = .stopped)
  constructor
  · rintro rfl
    have present : s.power.qualified = .present := by cases hq : s.power.qualified <;> simp_all
    cases hst : (s.sources.get (sourceOf i)).state <;>
      simp [State.allowedState, State.lacksPower, henable, hmode, hdomain, hst, present] at allowed ⊢
  · rintro rfl
    have absent : s.power.qualified = .absent := by cases hq : s.power.qualified <;> simp_all
    have off : (s.sources.get (sourceOf i)).state = .off := by
      cases hst : (s.sources.get (sourceOf i)).state <;>
        simp [State.allowedState, State.lacksPower, henable, hmode, hdomain, hst, absent] at allowed ⊢
    exact ⟨off, receiver.2 (.inl off)⟩

/-- The qualified change after the serial sources' responses. -/
def State.followOn (u : State) (p : HostPower) : State :=
  (((u.effectivenessChange).sessionFollows p).linkFollows p).wakesFollow p

theorem State.powerChange_eq (s : State) (p : HostPower) :
    s.powerChange p = ((s.powered p).sourcesFollow p).followOn p := rfl

/-- What follows the serial sources' responses: the session, the link, the outputs, and the trackers of patterns that are no
longer effective. -/
theorem State.followOn_eq (u : State) (p : HostPower) :
    u.followOn p = { u with
      queue := if p = .absent ∧ u.session.opened ≠ none then u.queue.allWaiting else u.queue
      session :=
        if p = .absent ∧ u.session.opened ≠ none then { u.session with opened := none, lastClose := .hostPower }
        else u.session
      link := match p with
        | .absent => u.link.cleared
        | .present => { u.link with byteReceiver := byteReceiverAt u.pins.hrx }
      wakes := u.wakes.map (Wake.gateChange p)
      trackers := u.effectivenessChange.trackers } := by
  unfold State.followOn
  cases p with
  | present => rfl
  | absent =>
    rcases u.effectivenessChange.closeSession_spec .hostPower with ⟨ho, e⟩ | ⟨ho, e⟩
    · have closed : u.session.opened = none := ho
      simp only [State.sessionFollows, e, closed, ne_eq, not_true_eq_false, and_false, if_false]
      rfl
    · have opened : u.session.opened ≠ none := ho
      simp only [State.sessionFollows, e, opened, ne_eq, not_false_eq_true, and_self, if_true]
      rfl

theorem Link.cleared_eq (l : Link) :
    l.cleared = { l with
      receiver := .hunting
      errors := if l.receiver = .hunting then l.errors else countUp l.errors
      byteReceiver := .waiting, breakTimer := none, replies := [], transmitter := .idle } := by
  rw [Link.cleared, Link.dropPartial_eq]

/-- A power condition fails in one of the two qualified states, unless it is ALWAYS (R9). -/
theorem Condition.holds_false_iff (c : Condition) (p : HostPower) :
    c.holds p = false ↔ (c = .hostOn ∧ p = .absent) ∨ (c = .hostOff ∧ p = .present) := by
  cases c <;> cases p <;> simp [Condition.holds]

/-- Settles O51: the serial sources' responses (`State.followed`), and what follows them (`State.followOn_eq`). -/
theorem qualifiedPowerChange : Obligations.QualifiedPowerChange := by
  intro s p hok hdue hp hpin
  have level : powerOf s.pins.hostpwr = p := by
    cases hl : s.pins.hostpwr <;> cases p <;> simp_all [powerOf]
  have taken : exec .qualifiedPowerChange s = .next (s.powerChange p) := by
    change execQualifiedPowerChange s = _
    rw [execQualifiedPowerChange, if_pos ((timerDue_iff _).2 hdue), if_neg (level ▸ Ne.symm hp), level]
  refine ⟨_, taken, ?_⟩
  rw [State.powerChange_eq]
  have followed := State.followed (hok.readyToFollow hp)
  generalize (s.powered p).sourcesFollow p = u at followed
  have follows : ∀ i, (s.powered p).followsPower i = true ↔ (s.sources.get (sourceOf i)).config.enable = true ∧
      (s.sources.get (sourceOf i)).config.mode = .live ∧ (s.serials.get i).line.domain = .host := by
    intro i
    change s.followsPower i = true ↔ _
    simp [State.followsPower]
  have leaves : ∀ src, (s.powered p).Leaves p (List.finRange 6) src ↔ p = .absent ∧ (s.sources.get src).state = .listening ∧
      ∃ i, src = sourceOf i ∧ (s.sources.get (sourceOf i)).config.enable = true ∧
        (s.sources.get (sourceOf i)).config.mode = .live ∧ (s.serials.get i).line.domain = .host := by
    intro src
    simp only [State.Leaves, List.mem_finRange, true_and, follows]
    rfl
  have records : (List.finRange 6).foldl ((s.powered p).followRecord p) (s.powered p).queue =
      (List.finRange 6).foldl (fun q i => if ((s.sources.get (sourceOf i)).config.enable = true ∧
          (s.sources.get (sourceOf i)).config.mode = .live ∧ (s.serials.get i).line.domain = .host) ∧
          (s.sources.get (sourceOf i)).config.reporting = true ∧
            (p = .absent ∨ (s.sources.get (sourceOf i)).config.settleTime = 0) then
          q.offer s.clock (.sourceState (sourceOf i) (if p = .absent then .offHostPower else .listeningSettled))
        else q) (s.queue.offer s.clock (.power p)) := by
    congr 1
    funext q i
    exact ite_eq_of_iff (and_congr_left' (follows i))
  obtain ⟨hrest, hsource, hserial, htracker, hholdoff⟩ := followed
  rw [records] at hrest
  intro follows' offered queue
  have queued : u.queue = queue := by rw [hrest]
  have session : u.session = s.session := by rw [hrest]; rfl
  have link : u.link = s.link := by rw [hrest]; rfl
  have wakes : u.wakes = s.wakes := by rw [hrest]; rfl
  have patterns : u.patterns = s.patterns := by rw [hrest]; rfl
  have power : u.power = { qualified := p, timer := none } := by rw [hrest]; rfl
  have pins : u.pins = s.pins := by rw [hrest]; rfl
  rw [State.followOn_eq]
  refine ⟨?_, ?_, ?_, fun w => ?_, ?_, fun i hi => ⟨?_, ?_⟩, fun i hi => ⟨?_, ?_⟩, fun x => ?_, fun y src => ?_⟩
  · rw [queued, session, hrest]
    rfl
  · rintro rfl
    rw [← link]
    exact u.link.cleared_eq
  · rintro rfl
    dsimp only
    rw [link, pins]
    cases s.pins.hrx <;> rfl
  · dsimp only
    rw [Table.get_map, wakes]
    cases p <;> cases hg : (s.wakes.get w).config.gate <;> simp [Wake.gateChange, WakeConfig.gateOpen, hg]
  · refine (hsource 6).trans (if_neg ?_)
    rintro ⟨i, -, h6, -⟩
    exact absurd (congrArg Fin.val h6) (Nat.ne_of_gt i.isLt)
  · refine (hsource _).trans (if_neg ?_)
    rintro ⟨j, -, hj, hf⟩
    rw [sourceOf_inj] at hj
    exact hi (hj ▸ (follows j).1 hf)
  · refine (hserial i).trans (if_neg ?_)
    rintro ⟨-, hf⟩
    exact hi ((follows i).1 hf)
  · exact (hsource _).trans (if_pos ⟨i, List.mem_finRange i, rfl, (follows i).2 hi⟩)
  · exact (hserial i).trans (if_pos ⟨List.mem_finRange i, (follows i).2 hi⟩)
  · dsimp only
    rw [State.effectivenessChange_trackers, Table.get_map, htracker, Option.filter_filter]
    change (s.trackers.get x).filter _ = _
    congr 1
    funext v
    simp only [leaves, patterns, Bool.not_or]
    congr 2
    cases s.patterns.get v.pattern with
    | none => rfl
    | some e =>
      simp only [State.entryEffective, power, Bool.decide_and, ← Condition.holds_false_iff, Bool.decide_eq_false]
  · refine (hholdoff y src).trans ?_
    exact ite_eq_of_iff (leaves src)

end Sys2Proof.Machine
end

section
/-! PROOFS. SET_SOURCE (R63 to R65, R82): the state that a source is left in, in each case of enable and mode. -/
namespace Sys2Proof.Machine

/-- A source whose configuration has been replaced and whose counters are 0, in a given state, with its receiver, if it has one
(R59, R63). -/
def State.sourceIn (s : State) (src : SourceId) (c : SourceConfig) (line : Option LineConfig) (st : SourceState)
    (rcv : SerialId → Receiver → Receiver) : State :=
  { s with
    sources := s.sources.set src { config := c, state := st, received := 0 }
    serials :=
      match serialOf? src, line with
      | some i, some l => s.serials.modify i fun x => { x with line := l, errors := 0, receiver := rcv i x.receiver }
      | _, _ => s.serials }

/-- A serial source has a line configuration in every SET_SOURCE that is accepted (R62). -/
abbrev LineFits (src : SourceId) (line : Option LineConfig) : Prop := ∀ i, serialOf? src = some i → line.isSome = true

theorem State.sourceIn_serial (s : State) (i : SerialId) (c : SourceConfig) (l : LineConfig) (st : SourceState)
    (rcv : SerialId → Receiver → Receiver) :
    s.sourceIn (sourceOf i) c (some l) st rcv = { s with
      sources := s.sources.set (sourceOf i) { config := c, state := st, received := 0 }
      serials := s.serials.set i { s.serials.get i with line := l, errors := 0, receiver := rcv i (s.serials.get i).receiver } } := by
  simp [State.sourceIn, Table.modify]

theorem State.sourceIn_SC (s : State) {src : SourceId} (h : serialOf? src = none) (c : SourceConfig)
    (line : Option LineConfig) (st : SourceState) (rcv : SerialId → Receiver → Receiver) :
    s.sourceIn src c line st rcv = { s with
      sources := s.sources.set src { config := c, state := st, received := 0 } } := by
  simp [State.sourceIn, h]

/-- The configuration is replaced, and the source takes a state (R63). -/
theorem State.configureSource_moved (s : State) {src : SourceId} {c : SourceConfig} {line : Option LineConfig}
    (hline : LineFits src line) (st : SourceState) (rcv : SerialId → Receiver → Receiver) :
    ((s.configureSource src c line).setSourceState src st).setReceiver src rcv = s.sourceIn src c line st rcv := by
  cases hi : serialOf? src with
  | none => simp [State.configureSource, State.setReceiver, State.sourceIn_SC, State.setSourceState, hi, Table.modify]
  | some i =>
    obtain ⟨l, rfl⟩ := Option.isSome_iff_exists.1 (hline i hi)
    rw [serialOf?_eq_some] at hi
    subst hi
    simp [State.configureSource, State.setReceiver_serial, State.sourceIn_serial, State.setSourceState, Table.modify]

theorem State.configureSource_source (s : State) (src : SourceId) (c : SourceConfig) (line : Option LineConfig) :
    (s.configureSource src c line).sources.get src = { config := c, state := (s.sources.get src).state, received := 0 } := by
  unfold State.configureSource
  dsimp only
  split <;> simp

/-- The end of a run and the move of its source do not meet. -/
theorem State.endRunIfAny_moved (s : State) (src : SourceId) (reason : RunEnd) (st : SourceState)
    (f : SerialId → Receiver → Receiver) :
    (((s.endRunIfAny src reason).setSourceState src st).setReceiver src f) =
      (((s.setSourceState src st).setReceiver src f).endRunIfAny src reason) := by
  unfold State.endRunIfAny State.setReceiver
  by_cases h : (s.injectors.get src).queue = []
  · cases serialOf? src <;> simp [h]
  · cases serialOf? src <;> simp only [State.setSourceState_injectors, h, if_false] <;> rfl

/-- Enable no (R64, R99, R48): a run that holds entries ends, and the source goes to OFF. -/
theorem State.applySource_off (s : State) {src : SourceId} {c : SourceConfig} {line : Option LineConfig}
    (hline : LineFits src line) (hc : c.enable = false) :
    (s.configureSource src c line).applySource src =
      let ended := (s.sourceIn src c line .off fun _ _ => .stopped).endRunIfAny src .sourceOff
      if (s.sources.get src).state = .listening ∨ (s.sources.get src).state = .test then
        ended.sourceOffRelease src
      else ended := by
  have sources : ((s.configureSource src c line).endRunIfAny src .sourceOff).sources = (s.configureSource src c line).sources := by
    simp
  unfold State.applySource
  rw [State.configureSource_source, if_pos hc, State.goOff_eq, State.endRunIfAny_moved, State.configureSource_moved s hline,
    sources, State.configureSource_source]

/-- Enable yes in TEST mode (R65). -/
theorem State.applySource_test (s : State) {src : SourceId} {c : SourceConfig} {line : Option LineConfig}
    (hline : LineFits src line) (hc : c.enable = true) (hm : c.mode = .test) :
    (s.configureSource src c line).applySource src = s.sourceIn src c line .test fun _ _ => .stopped := by
  unfold State.applySource
  rw [State.configureSource_source, if_neg (by simp [hc]), hm]
  exact s.configureSource_moved hline _ _

/-- Enable yes in LIVE mode with a settle time (R65). -/
theorem State.applySource_settling (s : State) {src : SourceId} {c : SourceConfig} {line : Option LineConfig}
    (hline : LineFits src line) (hc : c.enable = true) (hm : c.mode = .live) (ht : c.settleTime ≠ 0) :
    (s.configureSource src c line).applySource src =
      s.sourceIn src c line (.settling c.settleTime) fun i _ => receiverAt (s.pins.lines.get i) := by
  have pins : (s.configureSource src c line).pins = s.pins := by simp
  unfold State.applySource State.enterSettling
  rw [State.configureSource_source, if_neg (by simp [hc]), hm]
  dsimp only
  rw [if_neg ht, pins]
  exact s.configureSource_moved hline _ _

/-- Enable yes in LIVE mode with settle time 0 (R65). -/
theorem State.applySource_listening (s : State) {src : SourceId} {c : SourceConfig} {line : Option LineConfig}
    (hline : LineFits src line) (hc : c.enable = true) (hm : c.mode = .live) (ht : c.settleTime = 0) :
    (s.configureSource src c line).applySource src =
      (s.sourceIn src c line .listening fun i r => receiverAtListening (s.pins.lines.get i) r).offerIf c.reporting
        (.sourceState src .listeningSettled) := by
  have pins : (s.configureSource src c line).pins = s.pins := by simp
  unfold State.applySource State.enterSettling State.enterListening State.reportSource
  rw [State.configureSource_source, if_neg (by simp [hc]), hm]
  dsimp only
  rw [if_pos ht, pins, State.configureSource_moved s hline]
  simp [State.sourceIn]

end Sys2Proof.Machine
end

section
/-! PROOFS. The matching engine's invariant (R15, R17, R23, R25): patterns, pool and holdoff table, under releases, moves of
sources, changes of entries, and the three parts of an arrival. -/
namespace Sys2Proof.Machine

/-- The patterns, the pool and the holdoff table (R15, R17, R23, R25). -/
structure State.MatcherOk (s : State) : Prop where
  patterns : s.PatternsOk
  pool : s.PoolOk
  holdoffs : s.HoldoffsOk

/-- A source whose symbols reach the engine. -/
abbrev State.Hears (s : State) (src : SourceId) : Prop :=
  (s.sources.get src).state = .listening ∨ (s.sources.get src).state = .test

theorem State.Hears.congr {s t : State} {src : SourceId} (h : s.Hears src)
    (hs : (t.sources.get src).state = (s.sources.get src).state) : t.Hears src := by
  rw [State.Hears, hs]
  exact h

/-! ### What remains of a pool -/

/-- Every tracker that remains was there before, perhaps with other contents, and is as it must be. -/
theorem State.MatcherOk.of_survivors {s t : State} (h : s.MatcherOk) (hpatterns : t.PatternsOk)
    (hkept : ∀ i x, t.trackers.get i = some x →
      (∃ y, s.trackers.get i = some y ∧ y.pattern = x.pattern ∧ y.source = x.source) ∧ t.TrackerOk x ∧
        (t.holdoffs.get x.pattern).get x.source = none)
    (hstop : ∀ p, (∀ e ∈ t.patterns.get p, e.phase = .stopped) → ∀ src, (t.holdoffs.get p).get src = none) :
    t.MatcherOk where
  patterns := hpatterns
  pool := by
    refine ⟨fun i x hx => (hkept i x hx).2.1, fun i j x hx z hz hp hs => ?_⟩
    obtain ⟨⟨y, hy, hyp, hys⟩, -⟩ := hkept i x hx
    obtain ⟨⟨w, hw, hwp, hws⟩, -⟩ := hkept j z hz
    exact h.pool.2 i j y hy w hw (by rw [hyp, hwp, hp]) (by rw [hys, hws, hs])
  holdoffs := ⟨fun i x hx => (hkept i x hx).2.2, hstop⟩

/-- What a tracker's legality reads: its source's state and its pattern's definition. -/
theorem State.TrackerOk.carry {s t : State} {x : Tracker} (h : s.TrackerOk x) (hhears : t.Hears x.source)
    (hpart : ∀ d, s.participant x.source x.pattern = some d → t.participant x.source x.pattern = some d) :
    t.TrackerOk x := by
  obtain ⟨-, d, hd, rest⟩ := h
  exact ⟨hhears, d, hpart d hd, rest⟩

/-- Trackers are released, holdoffs cleared and sources moved; the patterns and host power are as they were. -/
theorem State.MatcherOk.shrunk {s t : State} (h : s.MatcherOk) (hpatterns : t.patterns = s.patterns)
    (hpower : t.power.qualified = s.power.qualified)
    (htracker : ∀ i x, t.trackers.get i = some x → s.trackers.get i = some x ∧ t.Hears x.source)
    (hholdoff : ∀ p src, (s.holdoffs.get p).get src = none → (t.holdoffs.get p).get src = none) : t.MatcherOk := by
  refine h.of_survivors (fun p e he => h.patterns p e (hpatterns ▸ he)) (fun i x hx => ?_) fun p hp src => ?_
  · obtain ⟨hs, hhears⟩ := htracker i x hx
    refine ⟨⟨x, hs, rfl, rfl⟩, (h.pool.1 i x hs).carry hhears fun d hd => ?_, hholdoff _ _ (h.holdoffs.1 i x hs)⟩
    rw [State.participant_congr hpatterns hpower]
    exact hd
  · exact hholdoff p src (h.holdoffs.2 p (hpatterns ▸ hp) src)

/-- A change of anything else. -/
theorem State.MatcherOk.congr {s t : State} (h : s.MatcherOk) (hpatterns : t.patterns = s.patterns)
    (htrackers : t.trackers = s.trackers) (hholdoffs : t.holdoffs = s.holdoffs)
    (hsources : ∀ src, (t.sources.get src).state = (s.sources.get src).state) (hpower : t.power.qualified = s.power.qualified) :
    t.MatcherOk := by
  refine h.shrunk hpatterns hpower (fun i x hx => ?_) (fun p src hn => by rwa [hholdoffs])
  rw [htrackers] at hx
  exact ⟨hx, State.Hears.congr (h.pool.1 i x hx).1 (hsources _)⟩

theorem optionFilter_eq_some {α : Type} {o : Option α} {f : α → Bool} {a : α} (h : o.filter f = some a) :
    o = some a ∧ f a = true := by simpa using h

/-- A release (R24). -/
theorem State.MatcherOk.released {s : State} (h : s.MatcherOk) (f : Tracker → Bool) : (s.releaseTrackers f).MatcherOk := by
  refine h.shrunk rfl rfl (fun i x hx => ?_) fun _ _ hn => hn
  rw [State.releaseTrackers_get] at hx
  obtain ⟨hs, -⟩ := optionFilter_eq_some hx
  exact ⟨hs, (h.pool.1 i x hs).1⟩

/-- A tracker expires (R44, R45). -/
theorem State.MatcherOk.freed {s : State} (h : s.MatcherOk) (i : TrackerId) : (s.freeTrackerAt i).MatcherOk := by
  refine h.shrunk rfl rfl (fun j x hx => ?_) fun _ _ hn => hn
  have hs : s.trackers.get j = some x := by
    change (s.trackers.set i none).get j = some x at hx
    rw [Table.get_set] at hx
    split at hx
    · cases hx
    · exact hx
  exact ⟨hs, (h.pool.1 j x hs).1⟩

/-! ### A change of one entry -/

/-- One entry changes: its own trackers belong to it as before, and its holdoffs are clear where they must be. -/
theorem State.MatcherOk.entrySet {s t : State} (h : s.MatcherOk) {p : PatternId} {o : Option Entry}
    (hpatterns : t.patterns = s.patterns.set p o) (hpower : t.power = s.power) (hsources : t.sources = s.sources)
    (htracker : ∀ i x, t.trackers.get i = some x → s.trackers.get i = some x)
    (hholdoff : ∀ q src, (s.holdoffs.get q).get src = none → (t.holdoffs.get q).get src = none)
    (hentry : ∀ e ∈ o, e.definition.Ok ∧ (e.phase = .spent → e.definition.oneShot = true))
    (hmine : ∀ i x, t.trackers.get i = some x → x.pattern = p → ∀ e, s.patterns.get p = some e → e.phase = .armed →
      ∃ e', o = some e' ∧ e'.phase = .armed ∧ e'.definition = e.definition)
    (hstop : (∀ e ∈ o, e.phase = .stopped) → ∀ src, (t.holdoffs.get p).get src = none) : t.MatcherOk := by
  have entry : ∀ q, t.patterns.get q = if p = q then o else s.patterns.get q := by
    intro q
    rw [hpatterns, Table.get_set]
  refine h.of_survivors (fun q e he => ?_) (fun i x hx => ?_) fun q hq src => ?_
  · rw [entry] at he
    split at he
    · exact hentry e he
    · exact h.patterns q e he
  · have hs := htracker i x hx
    have ok := h.pool.1 i x hs
    refine ⟨⟨x, hs, rfl, rfl⟩, ok.carry (State.Hears.congr ok.1 (by rw [hsources])) fun d hd => ?_,
      hholdoff _ _ (h.holdoffs.1 i x hs)⟩
    rw [State.participant_eq_some] at hd ⊢
    obtain ⟨e, he, harmed, hcond, hlists, rfl⟩ := hd
    rw [hpower, entry]
    by_cases hxp : x.pattern = p
    · obtain ⟨e', ho, harmed', hdef⟩ := hmine i x hx hxp e (hxp ▸ he) harmed
      exact ⟨e', by rw [if_pos hxp.symm, ho], harmed', hcond, hlists, hdef⟩
    · exact ⟨e, by rw [if_neg (Ne.symm hxp), he], harmed, hcond, hlists, rfl⟩
  · rw [entry] at hq
    by_cases hpq : p = q
    · rw [if_pos hpq] at hq
      subst hpq
      exact hstop hq src
    · rw [if_neg hpq] at hq
      exact hholdoff q src (h.holdoffs.2 q hq src)

theorem State.clearPatternHoldoffs_get (s : State) (p q : PatternId) (src : SourceId) :
    ((s.clearPatternHoldoffs p).holdoffs.get q).get src = if p = q then none else (s.holdoffs.get q).get src := by
  rw [State.clearPatternHoldoffs_holdoffs, Table.get_set]
  split <;> simp

/-- An entry that is not ARMED has no tracker (R23). -/
theorem State.MatcherOk.armed_of_tracker {s : State} (h : s.MatcherOk) {i : TrackerId} {x : Tracker}
    (hx : s.trackers.get i = some x) : ∃ e, s.patterns.get x.pattern = some e ∧ e.phase = .armed := by
  obtain ⟨-, d, hd, -⟩ := h.pool.1 i x hx
  obtain ⟨e, he, harmed, -⟩ := State.participant_eq_some.1 hd
  exact ⟨e, he, harmed⟩

/-- DEFINE_PATTERN and ERASE_PATTERN replace an entry that is not ARMED and clear its holdoffs (R18, R21, R27). -/
theorem State.MatcherOk.replaced {s : State} (h : s.MatcherOk) {p : PatternId} {o : Option Entry}
    (hidle : ∀ e ∈ s.patterns.get p, e.phase ≠ .armed) (hok : ∀ e ∈ o, e.definition.Ok ∧ e.phase = .stopped) :
    ((s.setEntry p o).clearPatternHoldoffs p).MatcherOk := by
  refine h.entrySet (p := p) rfl rfl rfl (fun _ _ hx => hx) (fun q src hn => ?_) (fun e he => ?_)
    (fun i x hx hp e he harmed => absurd harmed (hidle e he)) fun _ src => ?_
  · rw [State.clearPatternHoldoffs_get]
    split
    · rfl
    · exact hn
  · obtain ⟨hd, hst⟩ := hok e he
    exact ⟨hd, by rw [hst]; nofun⟩
  · rw [State.clearPatternHoldoffs_get, if_pos rfl]

/-- STOP_PATTERN (R20, R27, R47). -/
theorem State.MatcherOk.stopped {s : State} (h : s.MatcherOk) {p : PatternId} {e : Entry} (he : s.patterns.get p = some e) :
    (((s.setEntry p (some { e with phase := .stopped })).releasePattern p).clearPatternHoldoffs p).MatcherOk := by
  have left : ∀ i x, (((s.setEntry p (some { e with phase := .stopped })).releasePattern p).clearPatternHoldoffs p).trackers.get i
      = some x → s.trackers.get i = some x ∧ x.pattern ≠ p := by
    intro i x hx
    have := optionFilter_eq_some ((State.releaseTrackers_get _ _ _).symm.trans hx)
    simpa using this
  refine h.entrySet (p := p) rfl rfl rfl (fun i x hx => (left i x hx).1) (fun q src hn => ?_) (fun e' he' => ?_)
    (fun i x hx hp => absurd hp (left i x hx).2) fun _ src => ?_
  · rw [State.clearPatternHoldoffs_get]
    split
    · rfl
    · exact hn
  · cases he'
    exact ⟨(h.patterns p e he).1, nofun⟩
  · rw [State.clearPatternHoldoffs_get, if_pos rfl]

/-- ARM_PATTERN, and the clearing of a hit count: the phase stays, or becomes ARMED (R19, R22). -/
theorem State.MatcherOk.kept {s : State} (h : s.MatcherOk) {p : PatternId} {e : Entry} (he : s.patterns.get p = some e)
    (phase : Phase) (hits : Half) (hphase : phase = .armed ∨ phase = e.phase) :
    (s.setEntry p (some { e with phase := phase, hits := hits })).MatcherOk := by
  obtain ⟨hdef, hspent⟩ := h.patterns p e he
  refine h.entrySet (p := p) rfl rfl rfl (fun _ _ hx => hx) (fun _ _ hn => hn) (fun e' he' => ?_)
    (fun i x hx hp e' he' harmed => ?_) fun hst src => ?_
  · cases he'
    refine ⟨hdef, fun hs => hspent ?_⟩
    rcases hphase with rfl | rfl
    · cases hs
    · exact hs
  · rw [he] at he'
    cases he'
    exact ⟨_, rfl, by rcases hphase with rfl | rfl <;> simp [harmed], rfl⟩
  · have stopped : phase = .stopped := hst _ rfl
    refine h.holdoffs.2 p (fun e' he' => ?_) src
    rw [he] at he'
    cases he'
    rcases hphase with rfl | rfl
    · cases stopped
    · exact stopped

/-! ### Part 1 of an arrival (R29 to R32) -/

/-- A tracker that part 1 leaves: as it was, or advanced by a value that matches its step (R29). -/
theorem State.trackerAfter_eq_some {s : State} {src : SourceId} {sym : Symbol} {t x : Tracker}
    (h : s.trackerAfter src sym t = some x) :
    s.verdict src sym t ≠ some .mismatched ∧
      (x = t ∨ ∃ d v, s.participant src t.pattern = some d ∧ t.source = src ∧ sym = .value v ∧ t.next + 1 ≠ d.steps.length ∧
        x = { t with next := t.next + 1, gap := d.gapLimit, captured := t.captured.map (· ++ [v]) }) := by
  unfold State.trackerAfter at h
  split at h
  next hv => cases h; exact ⟨by rw [hv]; nofun, .inl rfl⟩
  next hv => cases h; exact ⟨by rw [hv]; nofun, .inl rfl⟩
  next t' hv =>
    cases h
    refine ⟨by rw [hv]; nofun, .inr ?_⟩
    obtain ⟨hsource, hv⟩ := Option.ite_none_right_eq_some.1 hv
    obtain ⟨d, hd, hj⟩ := Option.map_eq_some_iff.1 hv
    unfold Tracker.judge at hj
    split at hj
    · cases hj
    split at hj
    next hmatch =>
      split at hj
      · cases hj
      next hlast =>
        cases hj
        cases sym with
        | value v => exact ⟨d, v, hd, hsource, rfl, hlast, rfl⟩
        | error k =>
          unfold Definition.matchesStep at hmatch
          split at hmatch <;> simp_all
    next => cases hj
  next => cases h
  next => cases h

/-- A tracker that part 1 leaves is as it must be. -/
theorem State.TrackerOk.after {s u : State} {src : SourceId} {sym : Symbol} {t x : Tracker} (h : s.TrackerOk t)
    (hx : s.trackerAfter src sym t = some x) (hpatterns : u.patterns = s.patterns) (hpower : u.power = s.power)
    (hsources : u.sources = s.sources) : u.TrackerOk x ∧ x.pattern = t.pattern ∧ x.source = t.source := by
  obtain ⟨hhears, d, hd, hlo, hhi, hgap, hspan, hspans, hcap⟩ := h
  have hears : u.Hears t.source := State.Hears.congr hhears (by rw [hsources])
  have part : u.participant t.source t.pattern = some d := by
    rw [State.participant_congr hpatterns (by rw [hpower])]
    exact hd
  obtain ⟨-, rfl | ⟨d', v, hd', rfl, -, hlast, rfl⟩⟩ := s.trackerAfter_eq_some hx
  · exact ⟨⟨hears, d, part, hlo, hhi, hgap, hspan, hspans, hcap⟩, rfl, rfl⟩
  · obtain rfl : d = d' := Option.some.inj (hd.symm.trans hd')
    refine ⟨⟨hears, d, part, Nat.le_add_left 1 t.next, ?_, Nat.le_refl _, hspan, hspans, ?_⟩, rfl, rfl⟩
    · exact Nat.lt_of_le_of_ne hhi hlast
    · by_cases hcapture : d.capture = true
      · simp only [hcapture, if_true] at hcap ⊢
        obtain ⟨vs, hvs, hlength⟩ := Option.map_eq_some_iff.1 hcap
        simp [hvs, hlength]
      · simp only [hcapture, Bool.false_eq_true, if_false, Option.map_eq_none_iff] at hcap ⊢
        exact hcap

/-- The holdoffs that part 1 starts belong to mismatched trackers of patterns that take part (R32). -/
theorem State.judgeTrackers_holdoffs_get {s : State} {src c : SourceId} {sym : Symbol} {p : PatternId}
    (h : src = c → ∀ i t, s.trackers.get i = some t → t.source = src → t.pattern = p →
      s.verdict src sym t ≠ some .mismatched) :
    ((s.judgeTrackers src sym).holdoffs.get p).get c = (s.holdoffs.get p).get c := by
  by_cases hc : src = c
  · refine foldl_setHoldoff_get_other _ _ (.inr fun y hy hp => ?_)
    obtain ⟨t, ht, hy⟩ := List.mem_filterMap.1 hy
    obtain ⟨i, hi⟩ := (s.mem_usedTrackers t).1 ht
    obtain ⟨hsource, hpattern, -⟩ := State.holdoffOf_eq_some hy
    refine h hc i t hi hsource (hpattern.symm.trans hp) ?_
    unfold State.holdoffOf at hy
    split at hy
    · assumption
    all_goals cases hy
  · exact foldl_setHoldoff_get_other _ _ (.inl hc)

/-- Part 1 (R29 to R32). -/
theorem State.MatcherOk.judged {s : State} (h : s.MatcherOk) (src : SourceId) (sym : Symbol) :
    (s.judgeTrackers src sym).MatcherOk := by
  refine h.of_survivors h.patterns (fun i x hx => ?_) fun p hp c => ?_
  · have hx : (s.trackers.get i).bind (s.trackerAfter src sym) = some x := by
      change (s.trackers.map _).get i = some x at hx
      rwa [Table.get_map] at hx
    obtain ⟨y, hy, hafter⟩ := Option.bind_eq_some_iff.1 hx
    obtain ⟨ok, hpattern, hsource⟩ := (h.pool.1 i y hy).after (u := s.judgeTrackers src sym) hafter rfl rfl rfl
    refine ⟨⟨y, hy, hpattern.symm, hsource.symm⟩, ok, ?_⟩
    rw [State.judgeTrackers_holdoffs_get]
    · rw [hpattern, hsource]
      exact h.holdoffs.1 i y hy
    · rintro hc j z hz hzs hzp
      have same : j = i := h.pool.2 j i z hz y hy (hzp.trans hpattern) (by rw [hzs, hc, hsource])
      subst same
      rw [hy] at hz
      cases hz
      exact (s.trackerAfter_eq_some hafter).1
  · rw [State.judgeTrackers_holdoffs_get]
    · exact h.holdoffs.2 p hp c
    · rintro - i t ht - rfl
      obtain ⟨e, he, harmed⟩ := h.armed_of_tracker ht
      exact absurd (hp e he) (by rw [harmed]; nofun)

/-! ### Part 2 (R33 to R37) -/

/-- A start that claims a free tracker (R35). -/
theorem State.MatcherOk.claimed {s : State} (h : s.MatcherOk) {src : SourceId} {p : PatternId} {d : Definition} {i : TrackerId}
    (hears : s.Hears src) (hd : s.participant src p = some d) (hsteps : d.steps.length ≠ 1)
    (hfree : s.trackers.get i = none) (hnone : hasTracker s.trackers p src = false)
    (hholdoff : (s.holdoffs.get p).get src = none) (v : Byte) :
    State.MatcherOk { s with trackers := s.trackers.set i (some (claimedTracker p d src v s.clock)) } := by
  obtain ⟨e, he, -, -, -, rfl⟩ := State.participant_eq_some.1 hd
  have ok := (h.patterns p e he).1
  have read : ∀ j x, (s.trackers.set i (some (claimedTracker p e.definition src v s.clock))).get j = some x →
      (j = i ∧ x = claimedTracker p e.definition src v s.clock) ∨ (j ≠ i ∧ s.trackers.get j = some x) := by
    intro j x hx
    rw [Table.get_set] at hx
    split at hx
    next hij => cases hx; exact .inl ⟨hij.symm, rfl⟩
    next hij => exact .inr ⟨Ne.symm hij, hx⟩
  have other : ∀ j x, s.trackers.get j = some x → x.pattern = p → x.source ≠ src := by
    intro j x hx hp hs
    have := (hasTracker_iff s.trackers p src).2 ⟨j, x, hx, hp, hs⟩
    rw [hnone] at this
    cases this
  refine ⟨h.patterns, ⟨fun j x hx => ?_, fun j k x hx y hy hp hs => ?_⟩, fun j x hx => ?_, h.holdoffs.2⟩
  · obtain ⟨rfl, rfl⟩ | ⟨-, hx⟩ := read j x hx
    · refine ⟨hears, e.definition, hd, Nat.le_refl 1, ?_, Nat.le_refl _, rfl, fun n hn => ?_, ?_⟩
      · exact Nat.lt_of_le_of_ne ok.1 (Ne.symm hsteps)
      · exact Nat.le_of_eq (by rw [show e.definition.spanLimit = some n from hn]; rfl)
      · simp only [claimedTracker]
        split <;> rfl
    · exact h.pool.1 j x hx
  · obtain ⟨rfl, rfl⟩ | ⟨-, hx'⟩ := read j x hx <;> obtain ⟨rfl, rfl⟩ | ⟨-, hy'⟩ := read k y hy
    · rfl
    · exact absurd hs.symm (other k y hy' hp.symm)
    · exact absurd hs (other j x hx' hp)
    · exact h.pool.2 j k x hx' y hy' hp hs
  · obtain ⟨rfl, rfl⟩ | ⟨-, hx⟩ := read j x hx
    · exact hholdoff
    · exact h.holdoffs.1 j x hx

/-- One pattern of the scan (R33 to R37). -/
theorem State.MatcherOk.considered {s : State} {a : Starts} (h : State.MatcherOk { s with trackers := a.trackers })
    {src : SourceId} (hears : s.Hears src) (done : List Completion) (v : Byte) (p : PatternId) :
    State.MatcherOk { s with trackers := (s.considerStart done src v a p).trackers } := by
  rcases s.considerStart_spec done src v a p with e | ⟨d, hd, hmay, ⟨-, e⟩ | ⟨hsteps, i, hfree, e⟩ | ⟨-, -, e⟩⟩
  · rwa [e]
  · rwa [e]
  · rw [e]
    simp only [State.mayStart, Bool.and_eq_true, Bool.not_eq_true', decide_eq_true_eq] at hmay
    obtain ⟨⟨⟨⟨hnone, -⟩, hholdoff⟩, -⟩, -⟩ := hmay
    exact h.claimed hears hd hsteps (freeTracker_spec hfree).1 hnone hholdoff v
  · rwa [e]

/-- Part 2 (R33). -/
theorem State.MatcherOk.started {s : State} (h : s.MatcherOk) {src : SourceId} (hears : s.Hears src) (done : List Completion)
    (sym : Symbol) : State.MatcherOk { s with trackers := (s.starts done src sym).trackers } := by
  have scan : ∀ (l : List PatternId) (v : Byte) (a : Starts), State.MatcherOk { s with trackers := a.trackers } →
      State.MatcherOk { s with trackers := (l.foldl (s.considerStart done src v) a).trackers } := by
    intro l v
    induction l with
    | nil => exact fun a ha => ha
    | cons p l ih => exact fun a ha => ih _ (ha.considered hears done v p)
  cases sym with
  | error k => exact h
  | value v => exact scan _ v _ h

/-! ### Part 3 (R38 to R42) -/

/-- What a completion leaves as it was, and what it may release. -/
theorem State.complete_trackers_get (src : SourceId) (s : State) (c : Completion) (i : TrackerId) :
    (State.complete src s c).trackers.get i =
      match s.patterns.get c.pattern with
      | none => s.trackers.get i
      | some e => (s.trackers.get i).filter fun t => !(e.definition.oneShot && decide (t.pattern = c.pattern)) := by
  unfold State.complete
  cases s.patterns.get c.pattern with
  | none => rfl
  | some e =>
    dsimp only
    by_cases hone : e.definition.oneShot = true
    · simp [hone]
    · simp [hone, optionFilter_true]

/-- A completion (R14, R38, R41). -/
theorem State.MatcherOk.completed {s : State} (h : s.MatcherOk) (src : SourceId) (c : Completion) :
    (State.complete src s c).MatcherOk := by
  cases he : s.patterns.get c.pattern with
  | none =>
    have same : State.complete src s c = s := by simp [State.complete, he]
    rwa [same]
  | some e =>
    obtain ⟨hdef, hspent⟩ := h.patterns c.pattern e he
    have patterns : (State.complete src s c).patterns = s.patterns.set c.pattern (some { e with
        hits := countUp e.hits, phase := if e.definition.oneShot = true then .spent else e.phase }) := by
      apply Table.ext_get
      intro p
      rw [State.complete_patterns, Table.get_set]
      by_cases hp : c.pattern = p
      · subst hp
        simp [he]
      · simp [hp]
    have left : ∀ i x, (State.complete src s c).trackers.get i = some x →
        s.trackers.get i = some x ∧ ¬(e.definition.oneShot = true ∧ x.pattern = c.pattern) := by
      intro i x hx
      rw [State.complete_trackers_get, he] at hx
      obtain ⟨hs, hf⟩ := optionFilter_eq_some hx
      exact ⟨hs, fun ⟨hone, hp⟩ => by simp [hone, hp] at hf⟩
    refine h.entrySet patterns (by simp) (by simp) (fun i x hx => (left i x hx).1) (fun q c' hn => by simpa using hn)
      (fun e' he' => ?_) (fun i x hx hp e' he' harmed => ?_) fun hst c' => ?_
    · cases he'
      refine ⟨hdef, fun hs => ?_⟩
      dsimp only at hs
      split at hs
      · assumption
      · exact hspent hs
    · rw [he] at he'
      cases he'
      refine ⟨_, rfl, ?_, rfl⟩
      dsimp only
      rw [if_neg fun hone => (left i x hx).2 ⟨hone, hp⟩]
      exact harmed
    · have hst := hst _ rfl
      dsimp only at hst
      split at hst
      · cases hst
      · have := h.holdoffs.2 c.pattern (fun e' he' => by rw [he] at he'; cases he'; exact hst) c'
        simpa using this

theorem State.MatcherOk.taken {s : State} (h : s.MatcherOk) (src : SourceId) (cs : List Completion) :
    (s.takeCompletions src cs).MatcherOk := by
  have fold : ∀ (l : List Completion) (s : State), s.MatcherOk → (l.foldl (State.complete src) s).MatcherOk := by
    intro l
    induction l with
    | nil => exact fun _ hs => hs
    | cons c l ih => exact fun s hs => ih _ (hs.completed src c)
  unfold State.takeCompletions
  dsimp only
  split
  · exact (fold _ s h).released _
  · exact fold _ s h

/-! ### An arrival, and a delivery -/

theorem State.reportShort_rest (s : State) (src : SourceId) (lost : Option PatternId) :
    s.reportShort src lost = { s with
      queue := (s.reportShort src lost).queue, shortFlags := (s.reportShort src lost).shortFlags } := by
  unfold State.reportShort
  split
  · rfl
  · split <;> rfl

/-- One arrival at a source that is LISTENING or in TEST (R28, R43). -/
theorem State.MatcherOk.arrived {s : State} (h : s.MatcherOk) {src : SourceId} (hears : s.Hears src) (sym : Symbol) :
    (s.arrival src sym).MatcherOk := by
  unfold State.arrival
  dsimp only
  refine State.MatcherOk.taken ?_ src _
  rw [State.reportShort_rest]
  exact ((h.judged src sym).started (s := s.judgeTrackers src sym) hears _ sym).congr rfl rfl rfl (fun _ => rfl) rfl

/-- A symbol delivered at such a source (R58). -/
theorem State.MatcherOk.delivered {s : State} (h : s.MatcherOk) {src : SourceId} (hears : s.Hears src) (sym : Symbol) :
    (s.deliver src sym).MatcherOk := by
  have state : ∀ c, ((s.countReceived src).sources.get c).state = (s.sources.get c).state := by
    intro c
    simp only [State.countReceived, Table.get_modify]
    split <;> rfl
  have counted : (s.countReceived src).MatcherOk := h.congr rfl rfl rfl state rfl
  unfold State.deliver
  exact (counted.arrived (State.Hears.congr hears (state src)) sym).congr (by simp) (by simp) (by simp) (by simp) (by simp)

end Sys2Proof.Machine
end

section
/-! PROOFS. The sources and the injection queues (R55, R61, R83, R88, R92), and with the matching engine's invariant the whole
engine through every command (O54). -/
namespace Sys2Proof.Machine

/-! ### Sources and their receivers -/

theorem State.lacksPower_serial (s : State) (i : SerialId) :
    s.lacksPower (sourceOf i) = decide ((s.serials.get i).line.domain = .host ∧ s.power.qualified = .absent) := by
  simp [State.lacksPower]

/-- Where host power is PRESENT no source is kept OFF by it (R61). -/
theorem State.lacksPower_of_present {s : State} (h : s.power.qualified = .present) (src : SourceId) :
    s.lacksPower src = false := by
  unfold State.lacksPower
  split <;> simp [h]

theorem State.allowedState_congr {s t : State} {src : SourceId}
    (hconfig : (t.sources.get src).config = (s.sources.get src).config)
    (hstate : (t.sources.get src).state = (s.sources.get src).state) (hlacks : t.lacksPower src = s.lacksPower src) :
    t.allowedState src = s.allowedState src := by
  unfold State.allowedState
  dsimp only
  rw [hconfig, hstate, hlacks]

/-- What the sources' legality reads. -/
theorem State.SourcesOk.congr {s t : State} (h : s.SourcesOk)
    (hsource : ∀ src, (t.sources.get src).config = (s.sources.get src).config ∧
      (t.sources.get src).state = (s.sources.get src).state)
    (hserial : ∀ i, (t.serials.get i).line = (s.serials.get i).line ∧
      ((t.serials.get i).receiver = .stopped ↔ (s.serials.get i).receiver = .stopped))
    (hpower : t.power.qualified = s.power.qualified) : t.SourcesOk := by
  have lacks : ∀ src, t.lacksPower src = s.lacksPower src := by
    intro src
    unfold State.lacksPower
    split
    · rw [(hserial _).1, hpower]
    · rfl
  refine ⟨fun src => ?_, fun i => ?_⟩
  · rw [State.allowedState_congr (hsource src).1 (hsource src).2 (lacks src)]
    exact h.1 src
  · rw [State.ReceiverOk, (hserial i).2, (hsource _).2]
    exact h.2 i

/-- One source moves: it is in a state that is allowed, and its receiver is stopped exactly in OFF and TEST. -/
theorem State.SourcesOk.moved {s t : State} (h : s.SourcesOk) {src : SourceId}
    (hsource : ∀ c, c ≠ src → t.sources.get c = s.sources.get c)
    (hserial : ∀ i, sourceOf i ≠ src → t.serials.get i = s.serials.get i) (hpower : t.power = s.power)
    (hallowed : t.allowedState src = true) (hreceiver : ∀ i, src = sourceOf i → t.ReceiverOk i) : t.SourcesOk := by
  refine ⟨fun c => ?_, fun i => ?_⟩
  · by_cases hc : c = src
    · rwa [hc]
    · have lacks : t.lacksPower c = s.lacksPower c := by
        unfold State.lacksPower
        split
        next i hi =>
          rw [serialOf?_eq_some] at hi
          rw [hserial i (hi ▸ hc), hpower]
        next => rfl
      rw [State.allowedState_congr (by rw [hsource c hc]) (by rw [hsource c hc]) lacks]
      exact h.1 c
  · by_cases hi : sourceOf i = src
    · exact hreceiver i hi.symm
    · rw [State.ReceiverOk, hserial i hi, hsource _ hi]
      exact h.2 i

/-- A source with enable no is OFF (R61). -/
theorem State.SourcesOk.off_of_disabled {s : State} (h : s.SourcesOk) {src : SourceId}
    (he : (s.sources.get src).config.enable = false) : (s.sources.get src).state = .off := by
  have := h.1 src
  unfold State.allowedState at this
  simpa [he] using this

/-! ### Injection queues -/

theorem State.InjectorsOk.congr {s t : State} (h : s.InjectorsOk) (hinjectors : t.injectors = s.injectors)
    (hstate : ∀ src, (t.sources.get src).state = (s.sources.get src).state) : t.InjectorsOk := by
  intro src
  dsimp only
  rw [hinjectors, hstate]
  exact h src

/-- One injection queue as it must be: in TEST, or empty (R88, R91, R92). -/
def Injector.OkIn (j : Injector) (st : SourceState) : Prop :=
  j.queue.length ≤ 32 ∧ (j.queue ≠ [] → st = .test) ∧ (j.timer ≠ none ↔ j.queue ≠ []) ∧ j.cancelled = 0 ∧
    (j.queue = [] → j.delivered = 0)

theorem Injector.okIn_reset (st : SourceState) : resetInjector.OkIn st := by simp [Injector.OkIn, resetInjector]

theorem Injector.OkIn.empty {j : Injector} {st st' : SourceState} (h : j.OkIn st) (hq : j.queue = []) : j.OkIn st' := by
  obtain ⟨hlength, -, htimer, hcancelled, hdelivered⟩ := h
  exact ⟨hlength, fun hne => absurd hq hne, htimer, hcancelled, hdelivered⟩

/-- One source and its queue change. -/
theorem State.InjectorsOk.set {s t : State} (h : s.InjectorsOk) {src : SourceId}
    (hother : ∀ c, c ≠ src → t.injectors.get c = s.injectors.get c ∧ (t.sources.get c).state = (s.sources.get c).state)
    (hmine : (t.injectors.get src).OkIn (t.sources.get src).state) : t.InjectorsOk := by
  intro c
  by_cases hc : c = src
  · subst hc
    exact hmine
  · obtain ⟨hj, hst⟩ := hother c hc
    dsimp only
    rw [hj, hst]
    exact h c

/-- Entries join a queue of a source in TEST (R91, R92). -/
theorem Injector.OkIn.append {j : Injector} (h : j.OkIn .test) {es : List Symbol} (hne : es ≠ []) (spacing : Nat)
    (hroom : j.queue.length + es.length ≤ 32) : (j.append es spacing).OkIn .test := by
  obtain ⟨-, -, htimer, hcancelled, -⟩ := h
  have filled : j.queue ++ es ≠ [] := by simp [hne]
  refine ⟨by simpa [Injector.append] using hroom, fun _ => rfl, iff_of_true ?_ filled, hcancelled,
    fun hq => absurd hq filled⟩
  unfold Injector.append
  dsimp only
  split
  · nofun
  next hq => exact htimer.2 hq

/-! ### The whole engine -/

/-- The invariant of the engine, the sources and the injection queues. -/
structure State.EngineOk (s : State) : Prop where
  matcher : s.MatcherOk
  sources : s.SourcesOk
  injectors : s.InjectorsOk

/-- A change of anything else. -/
theorem State.EngineOk.congr {s t : State} (h : s.EngineOk) (hpatterns : t.patterns = s.patterns)
    (htrackers : t.trackers = s.trackers) (hholdoffs : t.holdoffs = s.holdoffs) (hsources : t.sources = s.sources)
    (hserial : ∀ i, (t.serials.get i).line = (s.serials.get i).line ∧
      ((t.serials.get i).receiver = .stopped ↔ (s.serials.get i).receiver = .stopped))
    (hinjectors : t.injectors = s.injectors) (hpower : t.power.qualified = s.power.qualified) : t.EngineOk where
  matcher := h.matcher.congr hpatterns htrackers hholdoffs (by simp [hsources]) hpower
  sources := h.sources.congr (by simp [hsources]) hserial hpower
  injectors := h.injectors.congr hinjectors (by simp [hsources])

/-- A change of patterns, trackers and holdoffs alone. -/
theorem State.EngineOk.withMatcher {s t : State} (h : s.EngineOk) (ht : t.MatcherOk) (hsources : t.sources = s.sources)
    (hserials : t.serials = s.serials) (hinjectors : t.injectors = s.injectors) (hpower : t.power = s.power) :
    t.EngineOk where
  matcher := ht
  sources := h.sources.congr (by simp [hsources]) (by simp [hserials]) (by rw [hpower])
  injectors := h.injectors.congr hinjectors (by simp [hsources])

/-- Counting and reporting an error leave a source's line and receiver (R59, R60). -/
theorem State.noteError_serial (s : State) (src : SourceId) (sym : Symbol) (i : SerialId) :
    ((s.noteError src sym).serials.get i).line = (s.serials.get i).line ∧
      ((s.noteError src sym).serials.get i).receiver = (s.serials.get i).receiver := by
  have counted : ∀ (t : State) (j : SerialId) (f : Serial → Serial),
      (∀ c, (f c).line = c.line ∧ (f c).receiver = c.receiver) →
      ((t.serials.modify j f).get i).line = (t.serials.get i).line ∧
        ((t.serials.modify j f).get i).receiver = (t.serials.get i).receiver := by
    intro t j f hf
    rw [Table.get_modify]
    split
    · exact hf _
    · exact ⟨rfl, rfl⟩
  unfold State.noteError
  split
  next k j _ =>
    have first := counted s j (fun c => { c with errors := countUp c.errors }) fun _ => ⟨rfl, rfl⟩
    unfold State.reportLineError
    split
    · dsimp only
      split
      · have second := counted { s with serials := s.serials.modify j fun c => { c with errors := countUp c.errors } } j
          (fun c => { c with errorFlag := true }) fun _ => ⟨rfl, rfl⟩
        exact ⟨second.1.trans first.1, second.2.trans first.2⟩
      · exact first
    · exact first
  next => exact ⟨rfl, rfl⟩
  next => exact ⟨rfl, rfl⟩

theorem State.deliver_source (s : State) (src : SourceId) (sym : Symbol) (c : SourceId) :
    ((s.deliver src sym).sources.get c).config = (s.sources.get c).config ∧
      ((s.deliver src sym).sources.get c).state = (s.sources.get c).state := by
  simp only [State.deliver, State.noteError_frame, State.arrival_frame, State.countReceived, Table.get_modify]
  split <;> exact ⟨rfl, rfl⟩

theorem State.deliver_serial (s : State) (src : SourceId) (sym : Symbol) (i : SerialId) :
    ((s.deliver src sym).serials.get i).line = (s.serials.get i).line ∧
      ((s.deliver src sym).serials.get i).receiver = (s.serials.get i).receiver := by
  have before : ((s.countReceived src).arrival src sym).serials = s.serials := by simp [State.countReceived]
  rw [← before]
  exact State.noteError_serial _ src sym i

/-- A symbol delivered leaves every source's configuration, state and receiver (R58). -/
theorem State.SourcesOk.delivered {s : State} (h : s.SourcesOk) (src : SourceId) (sym : Symbol) :
    (s.deliver src sym).SourcesOk :=
  h.congr (s.deliver_source src sym)
    (fun i => ⟨(s.deliver_serial src sym i).1, by rw [(s.deliver_serial src sym i).2]⟩) (by simp)

/-- A symbol is delivered at a source that is LISTENING or in TEST (R58). -/
theorem State.EngineOk.delivered {s : State} (h : s.EngineOk) {src : SourceId} (hears : s.Hears src) (sym : Symbol) :
    (s.deliver src sym).EngineOk :=
  ⟨h.matcher.delivered hears sym, h.sources.delivered src sym,
    h.injectors.congr (by simp) fun c => (s.deliver_source src sym c).2⟩

/-! ### Moves of sources -/

/-- A source is given a configuration and a state that host power allows (R63 to R65). -/
theorem State.SourcesOk.sourceIn {s : State} (h : s.SourcesOk) {src : SourceId} {c : SourceConfig} {line : Option LineConfig}
    (hline : LineFits src line) {st : SourceState} {rcv : SerialId → Receiver → Receiver}
    (hallowed : (s.sourceIn src c line st rcv).allowedState src = true)
    (hrcv : ∀ i, src = sourceOf i → (rcv i (s.serials.get i).receiver = .stopped ↔ st = .off ∨ st = .test)) :
    (s.sourceIn src c line st rcv).SourcesOk := by
  refine h.moved (src := src) (fun c' hc => ?_) (fun i hi => ?_) rfl hallowed fun i hi => ?_
  · exact Table.get_set_ne _ (Ne.symm hc) _
  · cases hj : serialOf? src with
    | none => rw [State.sourceIn_SC _ hj]
    | some j =>
      obtain ⟨l, rfl⟩ := Option.isSome_iff_exists.1 (hline j hj)
      rw [serialOf?_eq_some] at hj
      subst hj
      rw [State.sourceIn_serial]
      exact Table.get_set_ne _ (fun e : j = i => hi (by rw [e])) _
  · subst hi
    obtain ⟨l, rfl⟩ := Option.isSome_iff_exists.1 (hline i (by simp))
    have := hrcv i rfl
    rw [State.sourceIn_serial]
    simpa [State.ReceiverOk] using this

/-- One source moves, and no tracker remains on it. -/
theorem State.EngineOk.sourceMoved {s t : State} (h : s.EngineOk) {src : SourceId} (hpatterns : t.patterns = s.patterns)
    (hpower : t.power = s.power)
    (htracker : ∀ i x, t.trackers.get i = some x → s.trackers.get i = some x ∧ x.source ≠ src)
    (hholdoff : ∀ p c, (s.holdoffs.get p).get c = none → (t.holdoffs.get p).get c = none)
    (hother : ∀ c, c ≠ src → t.injectors.get c = s.injectors.get c ∧ t.sources.get c = s.sources.get c)
    (hsources : t.SourcesOk) (hmine : (t.injectors.get src).OkIn (t.sources.get src).state) : t.EngineOk where
  matcher := by
    refine h.matcher.shrunk hpatterns (by rw [hpower]) (fun i x hx => ?_) hholdoff
    obtain ⟨hs, hne⟩ := htracker i x hx
    exact ⟨hs, State.Hears.congr (h.matcher.pool.1 i x hs).1 (by rw [(hother _ hne).2])⟩
  sources := hsources
  injectors := h.injectors.set (fun c hc => ⟨(hother c hc).1, by rw [(hother c hc).2]⟩) hmine

/-- A tracker is on a source that hears. -/
theorem State.EngineOk.ne_of_deaf {s : State} (h : s.EngineOk) {src : SourceId} (hdeaf : ¬s.Hears src) {i : TrackerId}
    {x : Tracker} (hx : s.trackers.get i = some x) : x.source ≠ src := by
  rintro rfl
  exact hdeaf (h.matcher.pool.1 i x hx).1

/-- A queue outside TEST is empty (R92). -/
theorem State.EngineOk.queue_of_not_test {s : State} (h : s.EngineOk) {src : SourceId}
    (hst : (s.sources.get src).state ≠ .test) : (s.injectors.get src).queue = [] := by
  obtain ⟨-, htest, -⟩ := h.injectors src
  refine Classical.byContradiction fun hne => ?_
  exact hst (htest hne)

theorem State.sourceIn_source (s : State) (src : SourceId) (c : SourceConfig) (line : Option LineConfig) (st : SourceState)
    (rcv : SerialId → Receiver → Receiver) :
    (s.sourceIn src c line st rcv).sources = s.sources.set src { config := c, state := st, received := 0 } := rfl

/-- SET_SOURCE with enable yes finds its source OFF and gives it a state that host power allows (R65). -/
theorem State.EngineOk.enabled {s : State} (h : s.EngineOk) {src : SourceId} {c : SourceConfig} {line : Option LineConfig}
    (hline : LineFits src line) (hold : (s.sources.get src).config.enable = false) {st : SourceState}
    {rcv : SerialId → Receiver → Receiver} (hallowed : (s.sourceIn src c line st rcv).allowedState src = true)
    (hrcv : ∀ i, src = sourceOf i → (rcv i (s.serials.get i).receiver = .stopped ↔ st = .off ∨ st = .test)) :
    (s.sourceIn src c line st rcv).EngineOk := by
  have off := h.sources.off_of_disabled hold
  refine h.sourceMoved (src := src) rfl rfl (fun i x hx => ⟨hx, h.ne_of_deaf (by simp [State.Hears, off]) hx⟩)
    (fun _ _ hn => hn) (fun c' hc => ⟨rfl, Table.get_set_ne _ (Ne.symm hc) _⟩) (h.sources.sourceIn hline hallowed hrcv) ?_
  exact Injector.OkIn.empty (h.injectors src) (h.queue_of_not_test (by simp [off]))

/-- SET_SOURCE with enable no (R64, R99, R48). -/
theorem State.EngineOk.disabled {s : State} (h : s.EngineOk) {src : SourceId} {c : SourceConfig} {line : Option LineConfig}
    (hline : LineFits src line) (hc : c.enable = false) : ((s.configureSource src c line).applySource src).EngineOk := by
  have off : (s.sourceIn src c line .off fun _ _ => .stopped).SourcesOk :=
    h.sources.sourceIn hline (by simp [State.allowedState, State.sourceIn_source, hc]) fun _ _ => by simp
  rw [s.applySource_off hline hc]
  have sources : ∀ c', c' ≠ src → ((s.sourceIn src c line .off fun _ _ => .stopped).sources.get c') = s.sources.get c' :=
    fun c' hc' => Table.get_set_ne _ (Ne.symm hc') _
  have injectors : ∀ c', ((s.sourceIn src c line .off fun _ _ => .stopped).endRunIfAny src .sourceOff).injectors.get c' =
      if c' = src ∧ (s.injectors.get src).queue ≠ [] then resetInjector else s.injectors.get c' := by
    intro c'
    unfold State.endRunIfAny
    change (if (s.injectors.get src).queue = [] then _ else _ : State).injectors.get c' = _
    split
    next hq => simp [hq, State.sourceIn]
    next hq =>
      change (s.injectors.set src resetInjector).get c' = _
      rw [Table.get_set]
      simp [hq, eq_comm]
  have mine : (((s.sourceIn src c line .off fun _ _ => .stopped).endRunIfAny src .sourceOff).injectors.get src).OkIn .off := by
    rw [injectors]
    split
    · exact Injector.okIn_reset _
    next hq => exact Injector.OkIn.empty (h.injectors src) (by simpa using hq)
  have source : (s.sourceIn src c line .off fun _ _ => .stopped).sources.get src =
      { config := c, state := .off, received := 0 } := Table.get_set_self _ _ _
  have others : ∀ c', c' ≠ src →
      ((s.sourceIn src c line .off fun _ _ => .stopped).endRunIfAny src .sourceOff).injectors.get c' = s.injectors.get c' ∧
      ((s.sourceIn src c line .off fun _ _ => .stopped).endRunIfAny src .sourceOff).sources.get c' = s.sources.get c' := by
    intro c' hc'
    rw [injectors, if_neg fun hq => hc' hq.1]
    exact ⟨rfl, by simpa using sources c' hc'⟩
  have ended : ((s.sourceIn src c line .off fun _ _ => .stopped).endRunIfAny src .sourceOff).SourcesOk :=
    off.congr (by simp) (by simp) (by simp)
  dsimp only
  split
  next hears =>
    refine h.sourceMoved (src := src) (by simp [State.sourceIn]) (by simp [State.sourceIn]) (fun i x hx => ?_)
      (fun p c' hn => ?_) (fun c' hc' => by simpa using others c' hc') (ended.congr (by simp) (by simp) (by simp))
      (by simpa [source] using mine)
    · obtain ⟨hs, hne⟩ := optionFilter_eq_some ((State.releaseTrackers_get _ _ _).symm.trans hx)
      exact ⟨by simpa [State.sourceIn] using hs, by simpa using hne⟩
    · have kept : ((((s.sourceIn src c line .off fun _ _ => .stopped).endRunIfAny src .sourceOff).holdoffs.get p).get c') =
          none := by simpa [State.sourceIn] using hn
      simp only [State.sourceOffRelease, State.clearSourceHoldoffs_holdoffs, State.releaseTrackers_holdoffs, Table.get_map,
        Table.get_set, kept, ite_self]
  next hdeaf =>
    refine h.sourceMoved (src := src) (by simp [State.sourceIn]) (by simp [State.sourceIn]) (fun i x hx => ?_)
      (fun p c' hn => by simpa [State.sourceIn] using hn) others ended (by simpa [source] using mine)
    have hs : s.trackers.get i = some x := by simpa [State.sourceIn] using hx
    exact ⟨hs, h.ne_of_deaf hdeaf hs⟩

/-- SET_SOURCE, while host power is PRESENT (R63 to R65, R82). -/
theorem State.EngineOk.sourceSet {s : State} (h : s.EngineOk) {src : SourceId} {c : SourceConfig} {line : Option LineConfig}
    (hline : LineFits src line) (hpower : s.power.qualified = .present)
    (hbusy : ¬((s.sources.get src).config.enable = true ∧ c.enable = true)) :
    ((s.configureSource src c line).applySource src).EngineOk := by
  by_cases hc : c.enable = true
  · have hold : (s.sources.get src).config.enable = false := by
      cases he : (s.sources.get src).config.enable with
      | false => rfl
      | true => exact absurd ⟨he, hc⟩ hbusy
    have powered : ∀ st rcv, (s.sourceIn src c line st rcv).lacksPower src = false :=
      fun st rcv => State.lacksPower_of_present (s := s.sourceIn src c line st rcv) hpower src
    cases hm : c.mode with
    | test =>
      rw [s.applySource_test hline hc hm]
      exact h.enabled hline hold (by simp [State.allowedState, State.sourceIn_source, hc, hm]) fun _ _ => by simp
    | live =>
      by_cases ht : c.settleTime = 0
      · rw [s.applySource_listening hline hc hm ht]
        have listens := h.enabled (c := c) hline hold (st := .listening)
          (rcv := fun i r => receiverAtListening (s.pins.lines.get i) r)
          (by simp [State.allowedState, State.sourceIn_source, hc, hm, powered]) fun i hi => by
            subst hi
            have receiver := (h.sources.2 i).2 (.inl (h.sources.off_of_disabled hold))
            simp [receiver, receiverAtListening, receiverAt_ne_stopped]
        exact listens.congr (by simp) (by simp) (by simp) (by simp) (by simp) (by simp) (by simp)
      · rw [s.applySource_settling hline hc hm ht]
        exact h.enabled hline hold (by simp [State.allowedState, State.sourceIn_source, hc, hm, powered])
          fun _ _ => by simp [receiverAt_ne_stopped]
  · exact h.disabled hline (by simpa using hc)

theorem receiverAtListening_ne_stopped (l : Level) (r : Receiver) : receiverAtListening l r ≠ .stopped := by
  cases r <;> cases l <;> nofun

theorem State.enterListening_sources (s : State) (src : SourceId) :
    (s.enterListening src).sources = s.sources.set src { s.sources.get src with state := .listening } := by
  simp [State.enterListening, Table.modify]

/-- An entry to LISTENING leaves every line, and every receiver but the source's own. -/
theorem State.enterListening_serials_get (s : State) (src : SourceId) (i : SerialId) :
    ((s.enterListening src).serials.get i) = if src = sourceOf i then
        { s.serials.get i with receiver := receiverAtListening (s.pins.lines.get i) (s.serials.get i).receiver }
      else s.serials.get i := by
  cases hj : serialOf? src with
  | none =>
    rw [if_neg]
    · simp [State.enterListening, State.setReceiver, hj]
    · rintro rfl
      simp at hj
  | some j =>
    rw [serialOf?_eq_some] at hj
    subst hj
    rw [State.enterListening_serial]
    dsimp only
    rw [Table.get_set]
    by_cases hij : j = i
    · subst hij
      simp
    · rw [if_neg hij, if_neg (fun e => hij (sourceOf_inj.1 e))]

/-- A source that settles may listen (R61). -/
theorem State.SourcesOk.settling {s : State} (h : s.SourcesOk) {src : SourceId} {n : Nat}
    (hst : (s.sources.get src).state = .settling n) :
    (s.sources.get src).config.enable = true ∧ (s.sources.get src).config.mode = .live ∧ s.lacksPower src = false := by
  have allowed := h.1 src
  unfold State.allowedState at allowed
  dsimp only at allowed
  rw [hst] at allowed
  split at allowed <;> simp_all

/-- The settle timer's expiry (R66, R83). -/
theorem State.EngineOk.settled {s : State} (h : s.EngineOk) {src : SourceId} {n : Nat}
    (hst : (s.sources.get src).state = .settling n) : (s.enterListening src).EngineOk := by
  obtain ⟨henable, hmode, hpower⟩ := h.sources.settling hst
  have lacks : (s.enterListening src).lacksPower src = false := by
    rw [← hpower]
    unfold State.lacksPower
    split
    next i _ =>
      rw [State.enterListening_serials_get]
      split <;> simp
    next => rfl
  have source : (s.enterListening src).sources.get src = { s.sources.get src with state := .listening } := by
    rw [State.enterListening_sources, Table.get_set_self]
  have other : ∀ c, c ≠ src → (s.enterListening src).sources.get c = s.sources.get c := by
    intro c hc
    rw [State.enterListening_sources, Table.get_set_ne _ (Ne.symm hc)]
  refine h.sourceMoved (src := src) (by simp) (by simp) (fun i x hx => ?_) (fun p c hn => by simpa using hn)
    (fun c hc => ⟨by simp, other c hc⟩) ?_ ?_
  · have hs : s.trackers.get i = some x := by simpa using hx
    exact ⟨hs, h.ne_of_deaf (by simp [State.Hears, hst]) hs⟩
  · refine h.sources.moved (src := src) other (fun i hi => ?_) (by simp) ?_ fun i hi => ?_
    · rw [State.enterListening_serials_get, if_neg (Ne.symm hi)]
    · simp [State.allowedState, source, henable, hmode, lacks]
    · subst hi
      simp [State.ReceiverOk, source, State.enterListening_serials_get, receiverAtListening_ne_stopped]
  · have empty := h.queue_of_not_test (src := src) (by simp [hst])
    simpa using Injector.OkIn.empty (st' := ((s.enterListening src).sources.get src).state) (h.injectors src) empty

/-! ### A qualified change of host power (R69, R70, R137) -/

/-- A serial source that does not follow host power is in a state that both qualified states allow (R61). -/
theorem State.allowedState_unfollowed {s t : State} {src : SourceId} (h : s.allowedState src = true)
    (hsource : t.sources.get src = s.sources.get src) (hserial : ∀ i, src = sourceOf i → t.serials.get i = s.serials.get i)
    (hfollows : ∀ i, src = sourceOf i → s.followsPower i = false) : t.allowedState src = true := by
  by_cases hlive : (s.sources.get src).config.enable = true ∧ (s.sources.get src).config.mode = .live
  · have lacks : t.lacksPower src = s.lacksPower src := by
      unfold State.lacksPower
      split
      next i hi =>
        rw [serialOf?_eq_some] at hi
        subst hi
        have unfollowed := hfollows i rfl
        simp only [State.followsPower, hlive.1, hlive.2] at unfollowed
        simp_all
      next => rfl
    rw [State.allowedState_congr (by rw [hsource]) (by rw [hsource]) lacks]
    exact h
  · unfold State.allowedState at h ⊢
    dsimp only at h ⊢
    rw [hsource]
    split <;> simp_all

/-- The serial source that a number names, if it follows host power. -/
abbrev State.Follows (s : State) (src : SourceId) : Prop := ∃ i ∈ List.finRange 6, src = sourceOf i ∧ s.followsPower i = true

theorem State.follows_sourceOf (s : State) (i : SerialId) : s.Follows (sourceOf i) ↔ s.followsPower i = true := by
  simp [State.Follows, sourceOf_inj]

/-- A source that follows host power is taken to a state that the new qualified state allows. -/
theorem State.allowedState_followed {t : State} {src : SourceId} {c : SourceConfig} {p : HostPower}
    (hsource : (t.sources.get src).config = c) (hstate : (t.sources.get src).state = followTarget p c)
    (hlacks : t.lacksPower src = decide (p = .absent)) (henable : c.enable = true) (hmode : c.mode = .live) :
    t.allowedState src = true := by
  unfold State.allowedState
  dsimp only
  rw [hsource, hstate, henable, hmode, hlacks]
  cases p with
  | absent => rfl
  | present =>
    simp only [followTarget, reduceCtorEq, if_false]
    by_cases ht : c.settleTime = 0 <;> simp [ht]

/-- The sources after a qualified change (R61, R69, R70). -/
theorem State.SourcesOk.followed {s u : State} {p : HostPower} (h : s.SourcesOk) (hp : s.power.qualified ≠ p)
    (hu : (s.powered p).Followed p (List.finRange 6) u) : u.SourcesOk := by
  have power : u.power.qualified = p := by rw [hu.rest]; rfl
  have follows : ∀ i, (s.powered p).followsPower i = s.followsPower i := fun _ => rfl
  refine ⟨fun src => ?_, fun i => ?_⟩
  · by_cases hf : (s.powered p).Follows src
    · obtain ⟨i, -, rfl, hi⟩ := id hf
      have source := (hu.source (sourceOf i)).trans (if_pos hf)
      obtain ⟨henable, hmode, hdomain⟩ : (s.sources.get (sourceOf i)).config.enable = true ∧
          (s.sources.get (sourceOf i)).config.mode = .live ∧ (s.serials.get i).line.domain = .host := by
        simpa [State.followsPower] using (follows i).symm.trans hi
      refine State.allowedState_followed (p := p) (by rw [source]; rfl) (by rw [source]; rfl) ?_ henable hmode
      have domain : (u.serials.get i).line.domain = .host := by
        rw [hu.line]
        exact hdomain
      rw [State.lacksPower_serial, domain, power]
      simp
    · refine State.allowedState_unfollowed (h.1 src) ((hu.source src).trans (if_neg hf)) (fun i hi => ?_) fun i hi => ?_
      all_goals
        subst hi
        rw [State.follows_sourceOf, follows] at hf
      · refine (hu.serial i).trans (if_neg ?_)
        rintro ⟨-, hi⟩
        exact hf hi
      · simpa using hf
  · by_cases hf : s.followsPower i = true
    · have source := (hu.source (sourceOf i)).trans (if_pos ⟨i, List.mem_finRange i, rfl, hf⟩)
      have serial := (hu.serial i).trans (if_pos ⟨List.mem_finRange i, hf⟩)
      rw [State.ReceiverOk, source, serial]
      simp only [followTarget, followReceiver]
      cases p
      · simp
      · simp only [reduceCtorEq, if_false]
        split <;> split <;> simp
    · have source := (hu.source (sourceOf i)).trans
        (if_neg fun hi => hf (((s.powered p).follows_sourceOf i).1 hi))
      have serial := (hu.serial i).trans (if_neg fun hi => hf hi.2)
      rw [State.ReceiverOk, source, serial]
      exact h.2 i

/-- A tracker that remains after a qualified change is on a source that did not move. -/
theorem State.EngineOk.unfollowed_of_tracker {s : State} {p : HostPower} (h : s.EngineOk) (hp : s.power.qualified ≠ p)
    {i : TrackerId} {x : Tracker} (hx : s.trackers.get i = some x)
    (hleft : ¬(s.powered p).Leaves p (List.finRange 6) x.source) : ¬(s.powered p).Follows x.source := by
  intro hf
  obtain ⟨j, hj, hsource, hi⟩ := id hf
  have hears := (h.matcher.pool.1 i x hx).1
  have ready := h.sources.readyToFollow hp j hi
  rw [← hsource] at ready
  change (p = .absent → (s.sources.get x.source).state = .listening ∨ ∃ n, (s.sources.get x.source).state = .settling n) ∧
    (p = .present → (s.sources.get x.source).state = .off ∧ _) at ready
  cases p with
  | absent =>
    refine hleft ⟨rfl, ?_, hf⟩
    change (s.sources.get x.source).state = .listening
    obtain hst | ⟨n, hst⟩ := ready.1 rfl
    · exact hst
    · rw [hst] at hears
      obtain hst | hst := hears <;> cases hst
  | present =>
    rw [(ready.2 rfl).1] at hears
    obtain hst | hst := hears <;> cases hst

/-- The patterns, the pool and the holdoff table after a qualified change (R49). -/
theorem State.EngineOk.matcher_followed {s u : State} {p : HostPower} (h : s.EngineOk) (hp : s.power.qualified ≠ p)
    (hu : (s.powered p).Followed p (List.finRange 6) u) : u.effectivenessChange.MatcherOk := by
  have patterns : u.patterns = s.patterns := by rw [hu.rest]; rfl
  have power : u.power.qualified = p := by rw [hu.rest]; rfl
  have holdoff : ∀ y src, (s.holdoffs.get y).get src = none → (u.holdoffs.get y).get src = none := by
    intro y src hn
    rw [hu.holdoff]
    split
    · rfl
    · exact hn
  refine h.matcher.of_survivors (fun y e he => h.matcher.patterns y e (patterns ▸ he)) (fun i x hx => ?_)
    fun y hy src => holdoff y src (h.matcher.holdoffs.2 y (patterns ▸ hy) src)
  obtain ⟨hx, heffective⟩ := optionFilter_eq_some ((State.releaseTrackers_get _ _ _).symm.trans hx)
  rw [hu.tracker] at hx
  obtain ⟨hx, hleft⟩ := optionFilter_eq_some hx
  change s.trackers.get i = some x at hx
  have ok := h.matcher.pool.1 i x hx
  have unmoved : u.sources.get x.source = s.sources.get x.source :=
    (hu.source _).trans (if_neg (h.unfollowed_of_tracker hp hx
      (by simpa only [Bool.not_eq_true', decide_eq_false_iff_not] using hleft)))
  refine ⟨⟨x, hx, rfl, rfl⟩, ok.carry (State.Hears.congr ok.1 (congrArg Source.state unmoved)) fun d hd => ?_,
    holdoff _ _ (h.matcher.holdoffs.1 i x hx)⟩
  obtain ⟨e, he, harmed, -, hlists, rfl⟩ := State.participant_eq_some.1 hd
  refine State.participant_eq_some.2 ⟨e, ?_, harmed, ?_, hlists, rfl⟩
  · rw [← he]
    exact congrArg (fun t => t.get x.pattern) patterns
  · simp only [patterns, he, harmed, decide_true, Bool.true_and, Bool.not_not] at heffective
    exact heffective

/-- A qualified change of host power, whole (R137). -/
theorem State.EngineOk.powerChange {s : State} {p : HostPower} (h : s.EngineOk) (hp : s.power.qualified ≠ p) :
    (s.powerChange p).EngineOk := by
  rw [State.powerChange_eq]
  have followed := State.followed (h.sources.readyToFollow hp)
  generalize (s.powered p).sourcesFollow p = u at followed
  have injectors : u.injectors = s.injectors := by rw [followed.rest]; rfl
  have state : ∀ src, (s.injectors.get src).queue ≠ [] → (u.sources.get src).state = .test := by
    intro src hq
    have test : (s.sources.get src).state = .test := by
      refine Classical.byContradiction fun hne => ?_
      exact hq (h.queue_of_not_test hne)
    refine (congrArg Source.state ((followed.source src).trans (if_neg ?_))).trans test
    rintro ⟨i, -, rfl, hi⟩
    have ready := h.sources.readyToFollow hp i hi
    change (p = .absent → (s.sources.get (sourceOf i)).state = .listening ∨ ∃ n, (s.sources.get (sourceOf i)).state = .settling n) ∧
      (p = .present → (s.sources.get (sourceOf i)).state = .off ∧ _) at ready
    cases p <;> simp [test] at ready
  rw [State.followOn_eq]
  refine ⟨(h.matcher_followed hp followed).congr rfl rfl rfl (fun _ => rfl) rfl,
    (h.sources.followed hp followed).congr (fun _ => ⟨rfl, rfl⟩) (fun _ => ⟨rfl, Iff.rfl⟩) rfl, fun src => ?_⟩
  obtain ⟨hlength, -, htimer, hcounts⟩ := h.injectors src
  dsimp only
  rw [injectors]
  exact ⟨hlength, state src, htimer, hcounts⟩

/-! ### Contacts, deliveries, ticks and resets -/

/-- A symbol made on SC is delivered while SC is LISTENING (R78, R80). -/
theorem State.EngineOk.contactArrived {s : State} (h : s.EngineOk) (sym : Option Byte) : (s.contactArrival sym).EngineOk := by
  unfold State.contactArrival
  split
  · exact h
  · split
    next hst => exact h.delivered (.inl hst) _
    next => exact h

theorem State.EngineOk.stableChange {s : State} (h : s.EngineOk) (k : ContactId) (l : Level) :
    (s.stableChange k l).EngineOk := by
  unfold State.stableChange
  refine State.EngineOk.contactArrived ?_ _
  exact h.congr rfl rfl rfl rfl (by simp) rfl rfl

theorem State.EngineOk.contactPin {s : State} (h : s.EngineOk) (k : ContactId) (l : Level) : (s.contactPin k l).EngineOk := by
  have debounce : ∀ t, (s.setDebounce k t).EngineOk := fun t => h.congr rfl rfl rfl rfl (by simp) rfl rfl
  unfold State.contactPin
  dsimp only
  split
  · exact debounce _
  · split
    · exact h.stableChange k l
    · split
      · exact debounce _
      · exact h

theorem State.EngineOk.configureContact {s : State} (h : s.EngineOk) (k : ContactId) (cfg : ContactConfig) :
    (s.configureContact k cfg).EngineOk := by
  have configured : State.EngineOk { s with contacts := s.contacts.set k { s.contacts.get k with config := cfg } } :=
    h.congr rfl rfl rfl rfl (by simp) rfl rfl
  unfold State.configureContact
  dsimp only
  split
  · exact configured
  · split
    · exact configured.stableChange k _
    · exact configured.congr rfl rfl rfl rfl (by simp) rfl rfl

/-- A queue and its source: another queue, with everything else as it was. -/
theorem State.EngineOk.injectorSet {s t : State} (h : s.EngineOk) {src : SourceId} {j : Injector}
    (hinjectors : t.injectors = s.injectors.set src j) (hpatterns : t.patterns = s.patterns)
    (htrackers : t.trackers = s.trackers) (hholdoffs : t.holdoffs = s.holdoffs) (hsources : t.sources = s.sources)
    (hserials : t.serials = s.serials) (hpower : t.power = s.power) (hj : j.OkIn (s.sources.get src).state) :
    t.EngineOk where
  matcher := h.matcher.congr hpatterns htrackers hholdoffs (by simp [hsources]) (by rw [hpower])
  sources := h.sources.congr (by simp [hsources]) (by simp [hserials]) (by rw [hpower])
  injectors := by
    refine h.injectors.set (src := src) (fun c hc => ⟨?_, by rw [hsources]⟩) ?_
    · rw [hinjectors, Table.get_set_ne _ (Ne.symm hc)]
    · rw [hinjectors, hsources, Table.get_set_self]
      exact hj

/-- A run ends (R95, R97). -/
theorem State.EngineOk.runEnded {s : State} (h : s.EngineOk) (src : SourceId) (reason : RunEnd) :
    (s.endRun src reason).EngineOk :=
  h.injectorSet (src := src) rfl rfl rfl rfl rfl rfl rfl (Injector.okIn_reset _)

/-- The queue after the delivery of its head entry (R93, R95): the timer runs again, or the run ends. -/
theorem State.afterDelivery_injectors (s : State) (src : SourceId) :
    (s.afterDelivery src).injectors = s.injectors.set src (if (s.injectors.get src).queue = [] then resetInjector else
      { s.injectors.get src with timer := some (s.sources.get src).config.spacing }) := by
  unfold State.afterDelivery
  split
  · rfl
  · rfl

/-- A delivery of the head entry, and what follows it (R93, R95). -/
theorem State.EngineOk.injected {s : State} (h : s.EngineOk) {src : SourceId} {sym : Symbol} {rest : List Symbol}
    (hq : (s.injectors.get src).queue = sym :: rest) (hst : (s.sources.get src).state = .test) (n : Half) :
    (((({ s with
      injectors := s.injectors.set src { s.injectors.get src with
        queue := rest, delivered := n, timer := none } } : State).deliver src sym).afterDelivery src)).EngineOk := by
  obtain ⟨hlength, -, -, hcancelled, -⟩ := h.injectors src
  rw [hq, List.length_cons] at hlength
  have hears : s.Hears src := .inr hst
  generalize htaken : ({ s with
    injectors := s.injectors.set src { s.injectors.get src with
      queue := rest, delivered := n, timer := none } } : State) = taken
  have sources : taken.sources = s.sources := by rw [← htaken]
  have injectors : taken.injectors = s.injectors.set src { s.injectors.get src with
      queue := rest, delivered := n, timer := none } := by rw [← htaken]
  have matcher : taken.MatcherOk := by
    rw [← htaken]
    exact h.matcher.congr rfl rfl rfl (fun _ => rfl) rfl
  have sourcesOk : taken.SourcesOk := by
    rw [← htaken]
    exact h.sources.congr (fun _ => ⟨rfl, rfl⟩) (fun _ => ⟨rfl, Iff.rfl⟩) rfl
  have state : ∀ c, (((taken.deliver src sym).afterDelivery src).sources.get c).state = (s.sources.get c).state := by
    intro c
    have after : ((taken.deliver src sym).afterDelivery src).sources = (taken.deliver src sym).sources := by simp
    rw [after, (taken.deliver_source src sym c).2, sources]
  have queues : (taken.deliver src sym).injectors = taken.injectors := by simp
  refine ⟨?_, ?_, h.injectors.set (src := src) (fun c hc => ⟨?_, state c⟩) ?_⟩
  · exact (matcher.delivered (by rw [State.Hears, sources]; exact hears) sym).congr (by simp) (by simp) (by simp)
      (by simp) (by simp)
  · exact (sourcesOk.delivered src sym).congr (by simp) (by simp) (by simp)
  · rw [State.afterDelivery_injectors, queues, injectors]
    simp [Ne.symm hc]
  · rw [state, State.afterDelivery_injectors, hst]
    simp only [Table.get_set_self, State.deliver_frame, injectors]
    split
    · exact Injector.okIn_reset _
    next hne => exact ⟨by simp; omega, fun _ => rfl, by simpa using hne, hcancelled, fun he => absurd he hne⟩

/-- A source's state one millisecond later is of the same kind (R66). -/
theorem SourceState.tick_eq (st : SourceState) :
    (st.tick = .off ↔ st = .off) ∧ (st.tick = .listening ↔ st = .listening) ∧ (st.tick = .test ↔ st = .test) := by
  cases st <;> simp [SourceState.tick]

/-- One millisecond (R26, R44, R45, R66, R92). -/
theorem State.EngineOk.tick {s : State} (h : s.EngineOk) : State.EngineOk { s.tickTimers with clock := s.clock + 1 } where
  matcher := by
    have holdoff : ∀ p src, (s.holdoffs.get p).get src = none →
        ((s.tickTimers).holdoffs.get p).get src = none := by
      intro p src hn
      simp [State.tickTimers, hn, tickTimer]
    refine h.matcher.of_survivors h.matcher.patterns (fun i x hx => ?_) fun p hp src => holdoff p src (h.matcher.holdoffs.2 p hp src)
    replace hx : (s.trackers.map fun slot => slot.map Tracker.tick).get i = some x := hx
    rw [Table.get_map] at hx
    obtain ⟨y, hy, rfl⟩ := Option.map_eq_some_iff.1 hx
    obtain ⟨hears, d, hd, hlo, hhi, hgap, hspan, hspans, hcap⟩ := h.matcher.pool.1 i y hy
    refine ⟨⟨y, hy, rfl, rfl⟩, ⟨?_, d, hd, hlo, hhi, Nat.le_trans (Nat.sub_le _ _) hgap, ?_, fun n hn => ?_, hcap⟩,
      holdoff _ _ (h.matcher.holdoffs.1 i y hy)⟩
    · change ((s.tickTimers).sources.get y.source).state = .listening ∨ ((s.tickTimers).sources.get y.source).state = .test
      simp only [State.tickTimers, Table.get_map, SourceState.tick_eq]
      exact hears
    · simpa [Tracker.tick, tickTimer] using hspan
    · obtain ⟨m, hm, rfl⟩ := Option.map_eq_some_iff.1 hn
      exact Nat.le_trans (Nat.sub_le m 1) (hspans m hm)
  sources := by
    refine ⟨fun src => ?_, fun i => ?_⟩
    · have allowed := h.sources.1 src
      have lacks : State.lacksPower { s.tickTimers with clock := s.clock + 1 } src = s.lacksPower src := rfl
      unfold State.allowedState at allowed ⊢
      dsimp only at allowed ⊢
      rw [lacks]
      simp only [State.tickTimers, Table.get_map]
      cases hst : (s.sources.get src).state with
      | settling n =>
        rw [hst] at allowed
        simp only [SourceState.tick]
        split at allowed <;> simp_all
        omega
      | off | listening | test => rw [hst] at allowed; exact allowed
    · have receiver := h.sources.2 i
      unfold State.ReceiverOk at receiver ⊢
      simp only [State.tickTimers, Table.get_map, SourceState.tick_eq]
      exact receiver
  injectors := by
    intro src
    obtain ⟨hlength, htest, htimer, hcounts⟩ := h.injectors src
    simp only [State.tickTimers, Table.get_map, SourceState.tick_eq]
    exact ⟨hlength, htest, Iff.trans (by simp [tickTimer]) htimer, hcounts⟩

theorem State.engineOk_reset {s : State} (hpatterns : s.patterns = State.reset.patterns)
    (htrackers : s.trackers = State.reset.trackers) (hholdoffs : s.holdoffs = State.reset.holdoffs)
    (hsources : s.sources = State.reset.sources) (hserials : s.serials = State.reset.serials)
    (hinjectors : s.injectors = State.reset.injectors) : s.EngineOk where
  matcher := by
    have free : ∀ i x, s.trackers.get i ≠ some x := by simp [htrackers, State.reset]
    refine ⟨fun p e he => ?_, ⟨fun i x hx => absurd hx (free i x), fun i _ x hx => absurd hx (free i x)⟩,
      fun i x hx => absurd hx (free i x), fun p _ src => ?_⟩
    · simp [hpatterns, State.reset] at he
    · simp [hholdoffs, State.reset]
  sources := by
    refine ⟨fun src => ?_, fun i => ?_⟩
    · simp [State.allowedState, hsources, State.reset, resetSource]
    · simp [State.ReceiverOk, hsources, hserials, State.reset, resetSource, resetSerial]
  injectors := by
    intro src
    simp [hinjectors, State.reset, resetInjector]

/-! ### Every command -/

theorem recordLeaves_serial (rs : List Record) (s : State) (i : SerialId) :
    ((rs.foldl State.recordLeaves s).serials.get i).line = (s.serials.get i).line ∧
      ((rs.foldl State.recordLeaves s).serials.get i).receiver = (s.serials.get i).receiver := by
  have one : ∀ (s : State) (r : Record), ((s.recordLeaves r).serials.get i).line = (s.serials.get i).line ∧
      ((s.recordLeaves r).serials.get i).receiver = (s.serials.get i).receiver := by
    intro s r
    unfold State.recordLeaves
    split
    · dsimp only
      rw [Table.get_modify]
      split <;> exact ⟨rfl, rfl⟩
    all_goals exact ⟨rfl, rfl⟩
  exact ⟨foldl_keeps State.recordLeaves (fun s => (s.serials.get i).line) (fun s r => (one s r).1) rs s,
    foldl_keeps State.recordLeaves (fun s => (s.serials.get i).receiver) (fun s r => (one s r).2) rs s⟩

theorem State.Accepted.engineOk {s t : State} {k : Kind} (h : s.Accepted k t) (hs : s.EngineOk)
    (hpower : s.power.qualified = .present) : t.EngineOk := by
  cases h with
  | unchanged => exact hs
  | sourceSet src c line hbusy hline => exact hs.sourceSet hline hpower hbusy
  | injected src es hne htest hroom =>
    have ok := hs.injectors src
    rw [htest] at ok
    refine hs.injectorSet (src := src) rfl rfl rfl rfl rfl rfl rfl ?_
    rw [htest]
    exact Injector.OkIn.append ok hne _ hroom
  | injectCancelled src => exact hs.runEnded src _
  | contactSet k cfg => exact hs.configureContact k cfg
  | patternDefined p d hd hidle =>
    exact hs.withMatcher (hs.matcher.replaced hidle fun e he => by cases he; exact ⟨hd, rfl⟩) rfl rfl rfl rfl
  | patternArmed p e he => exact hs.withMatcher (hs.matcher.kept he .armed e.hits (.inl rfl)) rfl rfl rfl rfl
  | patternStopped p e he => exact hs.withMatcher (hs.matcher.stopped he) rfl rfl rfl rfl
  | patternErased p hidle => exact hs.withMatcher (hs.matcher.replaced hidle (by simp)) rfl rfl rfl rfl
  | hitsCleared p e he => exact hs.withMatcher (hs.matcher.kept he e.phase 0 (.inr rfl)) rfl rfl rfl rfl
  | flushed set =>
    refine hs.withMatcher ((hs.matcher.released _).shrunk rfl rfl
      (fun i x hx => ⟨hx, ((hs.matcher.released fun t => set.getLsbD t.source.val).pool.1 i x hx).1⟩) fun p src hn => ?_)
      rfl rfl rfl rfl
    simp only [State.clearHoldoffsOn, Table.get_map, Table.get_tabulate]
    split
    · rfl
    · exact hn
  | acknowledged n gone rest =>
    refine hs.congr (foldl_keeps State.recordLeaves State.patterns (by simp) gone s)
      (foldl_keeps State.recordLeaves State.trackers (by simp) gone s)
      (foldl_keeps State.recordLeaves State.holdoffs (by simp) gone s)
      (foldl_keeps State.recordLeaves State.sources (by simp) gone s) (fun i => ?_)
      (foldl_keeps State.recordLeaves State.injectors (by simp) gone s) (by simp)
    obtain ⟨hline, hreceiver⟩ := recordLeaves_serial gone s i
    exact ⟨hline, by rw [hreceiver]⟩
  | sessionOpened | sessionClosed | noticesHeld | noticesReleased | clockLoaded | wakeSet | wakesCleared =>
    exact hs.congr (by simp) (by simp) (by simp) (by simp) (by simp) (by simp) (by simp)

/-- A level of a source line (R55). -/
theorem State.EngineOk.lineSeen {s : State} (h : s.EngineOk) (i : SerialId) (l : Level) {f : SerialId → Receiver → Receiver}
    (hf : f i (s.serials.get i).receiver = .stopped ↔ (s.serials.get i).receiver = .stopped) :
    ((s.setLine i l).setReceiver (sourceOf i) f).EngineOk := by
  rw [State.setReceiver_serial]
  refine h.congr rfl rfl rfl rfl (fun j => ?_) rfl rfl
  simp only [State.setLine_serials]
  by_cases hj : i = j
  · subst hj
    simpa using hf
  · simp [hj]

theorem State.EngineOk.arbitrated {s : State} (h : s.EngineOk) : s.arbitrate.EngineOk :=
  h.congr (by simp) (by simp) (by simp) (by simp) (by simp) (by simp) (by simp)

theorem State.Effect.engineOk {s t : State} {i : Instr} (hs : s.EngineOk) (h : s.Effect i t) : t.EngineOk := by
  cases h with
  | idle => exact hs
  | dispatched _ q k p _ hf _ ht =>
    have framed : s.afterFrame.EngineOk := hs.congr rfl rfl rfl rfl (by simp) rfl rfl
    exact ht.keeps_rest (fun u _ _ _ _ hu => hu.congr rfl rfl rfl rfl (by simp) rfl rfl)
      (fun kind u hu => hu.engineOk framed hf.1) framed
  | lineSeen _ src l f hf => exact hs.lineSeen src l hf
  | characterDelivered _ src l sym hr hst =>
    have seen := hs.lineSeen src l (f := fun _ _ => receiverAt l) (iff_of_false (receiverAt_ne_stopped l) hr)
    exact (seen.delivered (.inl (by simpa using hst)) sym).arbitrated
  | settled src hdue => exact (hs.settled hdue).arbitrated
  | contactMoved k l =>
    have pinned : (s.setContactPin k l).EngineOk := hs.congr rfl rfl rfl rfl (by simp) rfl rfl
    exact (pinned.contactPin k l).arbitrated
  | debounced k => exact (hs.stableChange k _).arbitrated
  | injectionDelivered src sym rest hq hst => exact (hs.injected hq hst _).arbitrated
  | trackerExpired _ x => exact hs.withMatcher (hs.matcher.freed x) rfl rfl rfl rfl
  | holdoffEnded p src =>
    refine hs.withMatcher (hs.matcher.shrunk rfl rfl (fun i x hx => ⟨hx, (hs.matcher.pool.1 i x hx).1⟩) fun q c hn => ?_)
      rfl rfl rfl rfl
    dsimp only
    rw [setHoldoff_get]
    split
    · rfl
    · exact hn
  | powerChanged hdue hp => exact hs.powerChange (Ne.symm hp)
  | ticked => exact hs.tick
  | resetAsserted | restarted | poweredOn => exact State.engineOk_reset rfl rfl rfl rfl rfl rfl
  | lineHeard | linkReset | noticeEnded | replyEnded | sessionLost | roundBegun | contactPinned | debounceStopped | latchTaken
  | pulseEnded | hostpwrPinned | hostpwrMoved | qualificationStopped =>
    exact hs.congr (by simp) (by simp) (by simp) (by simp) (by simp) (by simp) (by simp)

/-- Settles O54: the engine, the sources and the injection queues stay legal through every effect (`State.Effect.engineOk`). -/
theorem engineKept : Obligations.EngineKept := fun _ _ ⟨hpatterns, hpool, hholdoffs, hsources, hinjectors⟩ h =>
  have kept := step_keeps (P := State.EngineOk) (fun _ _ hs => hs.congr rfl rfl rfl rfl (by simp) rfl rfl)
    (fun _ _ _ hs ht => ht.engineOk hs) ⟨⟨hpatterns, hpool, hholdoffs⟩, hsources, hinjectors⟩ h
  ⟨kept.matcher.patterns, kept.matcher.pool, kept.matcher.holdoffs, kept.sources, kept.injectors⟩

end Sys2Proof.Machine
end

section
/-! PROOFS. Steps, resets, time and the expiries (chapters 2, 7, 9, 10): commands whose whole effect is one equation. -/
namespace Sys2Proof.Machine

/-! ### Steps and resets -/

/-- Settles O1: by the definition of a step. -/
theorem stepTakesFront : Obligations.StepTakesFront := fun _ _ _ => ⟨rfl, rfl⟩

/-- Settles O2: each table of the reset state is filled with one value, and the other blocks are written out. -/
theorem resetValues : Obligations.ResetValues := by
  refine ⟨fun _ => Table.get_fill .., fun _ => Table.get_fill .., fun p src => ?_, fun _ => Table.get_fill ..,
    fun _ => Table.get_fill .., fun _ => Table.get_fill .., fun k => ?_, fun _ => Table.get_fill .., rfl,
    fun w => ⟨Table.get_fill .., ?_⟩, rfl, ⟨rfl, rfl⟩, rfl, rfl, rfl, by decide⟩
  · simp [State.reset]
  · simp [State.reset, resetContact, restingPins]
  · simp [State.wakePin, State.reset, resetWake, Wake.asserted, Polarity.drive]

/-- Settles O3: the engine's invariant by `State.engineOk_reset`; the rest are small finite facts about the reset state. -/
theorem resetMeetsInvariants : Obligations.ResetMeetsInvariants := by
  have engine : State.reset.EngineOk := State.engineOk_reset rfl rfl rfl rfl rfl rfl
  refine ⟨engine.matcher.patterns, engine.matcher.pool, engine.matcher.holdoffs, engine.sources, ?_, engine.injectors,
    ?_, ?_, ?_, ?_, ?_, ?_, ?_, ?_, ?_⟩
  · refine (State.contactsOk_iff_of_live rfl).2 fun k => ?_
    have contact : State.reset.contacts.get k = resetContact .high := Table.get_fill ..
    have pin : State.reset.pins.contacts.get k = .high := Table.get_fill ..
    rw [contact, pin]
    exact ⟨.inr (.inr (.inl rfl)), Contact.okAt_stable _ _⟩
  · decide
  · exact ⟨by decide, fun _ => by decide, nofun⟩
  · refine ⟨fun i => ?_, fun src => ?_⟩
    · have flag : (State.reset.serials.get i).errorFlag = false := by simp [State.reset, resetSerial]
      rw [flag]
      rfl
    · have flag : State.reset.shortFlags.get src = false := Table.get_fill ..
      rw [flag]
      rfl
  · intro w
    have wake : State.reset.wakes.get w = resetWake := Table.get_fill ..
    exact wake ▸ Wake.okAt_no_pulse (p := State.reset.power.qualified) (by decide) rfl
  · decide
  · exact ⟨by decide, rfl, rfl, fun _ => ⟨rfl, rfl, rfl, rfl, rfl⟩⟩
  · exact fun h => absurd h (by decide)
  · nofun
  · nofun

/-- The reset sequence, written out (R119, R135, R180, R182). -/
theorem State.startUp_eq (s : State) (rate : LinkRate) (cause : StartCause) :
    s.startUp rate cause = { State.reset with
      contacts := s.pins.contacts.map resetContact
      queue :=
        { records := [{ number := 0, timestamp := 0, mark := .waiting, body := .started cause }], nextNumber := 1, lost := 0 }
      power := { qualified := .absent, timer := if s.pins.hostpwr = .high then some 10 else none }
      link := { State.reset.link with rate := rate }
      pins := s.pins
      choices := s.choices
      pending := s.pending } := by
  have timer : (if s.pins.hostpwr = .high then some 10 else none : Timer) = match s.pins.hostpwr with
      | .high => some Config.qualificationTime
      | .low => none := by
    cases s.pins.hostpwr <;> rfl
  rw [timer]
  rfl

/-- Settles O19: RESET's fall by definition, and its rise by `State.startUp_eq` with the rate that the straps give. -/
theorem resetSequence : Obligations.ResetSequence := by
  intro s lr1 lr0
  refine ⟨rfl, ?_⟩
  change Host.Outcome.next (State.startUp _ (strapRate lr1 lr0) .powerOn) = _
  rw [State.startUp_eq]
  cases lr1 <;> cases lr0 <;> rfl

/-- Settles O17: the transmitter is free for the arbiter (`State.arbitrate_spec`), or the reset comes (`State.startUp_eq`). -/
theorem transmitFrameEnd : Obligations.TransmitFrameEnd := by
  intro s
  refine ⟨fun f hf => ⟨_, ?_, State.arbitrate_spec _⟩, fun f r rest hf hr hm => ⟨_, ?_, State.arbitrate_spec _⟩,
    fun f r rest hf hr hm => ?_⟩
  all_goals
    change execTransmitFrameEnd s = _
    simp only [execTransmitFrameEnd, hf]
  · simp [hr, hm]
  · simp only [hr, hm, if_true, State.startUp_eq]

/-! ### Elapsed time -/

/-- Settles O18: each running timer counts down within its own block. -/
theorem clockTick : Obligations.ClockTick := by
  intro s
  refine ⟨fun h => if_pos h, fun h => ?_⟩
  have settle : ∀ st : SourceState, st.tick = match st with
      | .settling n => .settling (n - 1)
      | st => st := by
    intro st
    cases st <;> rfl
  have receiver : ∀ r : FrameReceiver, r.tick = match r with
      | .hunting => .hunting
      | .receiving len got t => .receiving len got (t - 1) := by
    intro r
    cases r <;> rfl
  change execClockTick s = _
  simp only [execClockTick, h, Bool.false_eq_true, if_false, State.tickTimers, settle, receiver]
  rfl

/-- Settles O45: each expiry is guarded by its timer's standing at 0. -/
theorem engineExpiries : Obligations.EngineExpiries := by
  intro s
  refine ⟨fun i t ht h => ?_, fun i t ht h => ?_, fun i t ht h => ?_, fun i t ht h => ?_, fun p src h => ?_, fun p src h => ?_⟩
  · change execGapDeadlineExpiry i s = _
    simp [execGapDeadlineExpiry, ht, timerDue_iff, h, State.freeTrackerAt]
  · change execGapDeadlineExpiry i s = _
    simp [execGapDeadlineExpiry, ht, timerDue_iff, h]
  · change execSpanDeadlineExpiry i s = _
    simp [execSpanDeadlineExpiry, ht, timerDue_iff, h, State.freeTrackerAt]
  · change execSpanDeadlineExpiry i s = _
    simp [execSpanDeadlineExpiry, ht, timerDue_iff, h]
  · exact if_pos ((timerDue_iff _).2 h)
  · exact if_neg (mt (timerDue_iff _).1 h)

/-! ### Wake outputs and host power -/

theorem WakeConfig.gateOpen_iff (c : WakeConfig) (p : HostPower) :
    c.gateOpen p = true ↔ c.gate = .any ∨ p = .absent := by
  unfold WakeConfig.gateOpen
  cases c.gate <;> simp

/-- Settles O47: a request sets a clear latch at an enabled output with open gate (`WakeConfig.gateOpen_iff`). -/
theorem latchAndPulse : Obligations.LatchAndPulse := by
  intro s w x open'
  refine ⟨fun he ho hl => ?_, fun hno => ?_, fun hp => ?_, fun hp => ?_⟩
  · have request : x.request s.power.qualified =
        { x with latch := true, pulse := if x.config.mode = .pulse then some x.config.width.toNat else none } := by
      unfold Wake.request
      rw [if_pos ⟨he, (WakeConfig.gateOpen_iff _ _).2 ho, hl⟩]
      cases x.config.mode <;> rfl
    change Host.Outcome.next { s with latchRequests := _, wakes := s.wakes.set w (x.request _) } = _
    rw [request]
  · have request : x.request s.power.qualified = x := by
      unfold Wake.request
      rw [if_neg]
      rintro ⟨he, ho, hl⟩
      exact hno ⟨he, (WakeConfig.gateOpen_iff _ _).1 ho, hl⟩
    change Host.Outcome.next { s with latchRequests := _, wakes := s.wakes.set w (x.request _) } = _
    rw [request]
    simp [x]
  · exact if_pos ((timerDue_iff _).2 hp)
  · exact if_neg (mt (timerDue_iff _).1 hp)

/-- Settles O50: the level agrees with the qualified state exactly where it stands for it (`powerOf`). -/
theorem hostpwrChange : Obligations.HostpwrChange := by
  intro s l hl agrees
  have agree : powerOf l = s.power.qualified ↔ agrees := by
    cases l <;> cases hq : s.power.qualified <;> simp [powerOf, agrees, hq]
  refine ⟨fun hr => ?_, fun hr => ?_⟩
  all_goals
    change execHostpwrChange l s = _
    unfold execHostpwrChange
    rw [if_neg hl]
    dsimp only
  · rw [if_neg (by simp [hr])]
    by_cases ha : agrees
    · rw [if_pos (agree.2 ha), if_pos ha]
    · rw [if_neg (mt agree.1 ha), if_neg ha]
      cases s.power.timer <;> simp [Config.qualificationTime]
  · rw [if_pos hr]

/-- Settles O22: below round 8 a round begins, at round 8 the session is lost (`State.closeSession`). -/
theorem retransmitExpiry : Obligations.RetransmitExpiry := by
  intro s o ho hdue
  refine ⟨fun hround => ⟨_, ?_, State.arbitrate_spec _⟩, fun hround => ?_⟩
  all_goals
    change execRetransmitExpiry s = _
    simp only [execRetransmitExpiry, ho, (timerDue_iff _).2 hdue, if_true]
  · rw [if_neg (show ¬Config.lastRound ≤ o.round from Nat.not_le.2 hround)]
    simp only [State.updateSession, ho, Option.map_some]
    rfl
  · rw [if_pos (show Config.lastRound ≤ o.round from hround)]
    simp only [State.closeSession, ho]

end Sys2Proof.Machine
end

section
/-! PROOFS. The host link's receiver (chapter 8): bytes, faults, levels of HRX, the break, and the dispatch of a good frame. -/
namespace Sys2Proof.Machine

/-! ### One byte (R145, R146) -/

/-- The line after a good byte (R142, R149). -/
theorem State.byteEnds_eq (s : State) :
    s.byteEnds = if s.link.breakTimer = some 0 then s else { s with
      link := { s.link with byteReceiver := .hunting, breakTimer := none }, pins := { s.pins with hrx := .high } } := by
  unfold State.byteEnds
  by_cases h : s.link.breakTimer = some 0
  · simp only [s.resetDue_iff.2 h, if_true, if_pos h]
  · simp [h, mt s.resetDue_iff.1 h]

theorem execLinkByte_taken {s : State} (h : s.TakesBytes) (b : Byte) :
    exec (.linkByte b) s = .next (s.byteEnds.receiveByte b) := by
  change execLinkByte b s = _
  rw [execLinkByte, (s.takesNoByte_false_iff).2 h]
  rfl

theorem execLinkByte_not_taken {s : State} (h : ¬s.TakesBytes) (b : Byte) : exec (.linkByte b) s = .next s := by
  change execLinkByte b s = _
  rw [execLinkByte, if_pos]
  rwa [← Bool.not_eq_false, s.takesNoByte_false_iff]

/-- A byte in HUNTING (R145). -/
theorem State.receiveByte_hunting {s : State} (h : s.link.receiver = .hunting) (b : Byte) :
    s.receiveByte b = if b = 0xA7 then { s with link := { s.link with receiver := .receiving none [] 20 } } else s := by
  rw [State.receiveByte, h]
  rfl

/-- LEN (R145). -/
theorem State.receiveByte_len {s : State} {got : List Byte} {t : Nat} (h : s.link.receiver = .receiving none got t) (b : Byte) :
    s.receiveByte b =
      if 2 ≤ b.toNat ∧ b.toNat ≤ 250 then { s with link := { s.link with receiver := .receiving (some b) [] 20 } }
      else { s with link := { s.link with receiver := .hunting, errors := countUp s.link.errors } } := by
  rw [State.receiveByte, h]
  dsimp only
  rw [Link.dropPartial_eq, h, if_neg (show ¬FrameReceiver.receiving none got t = .hunting from nofun)]
  rfl

/-- A byte from SEQ on (R146). -/
theorem State.receiveByte_body {s : State} {len : Byte} {got : List Byte} {t : Nat}
    (h : s.link.receiver = .receiving (some len) got t) (b : Byte) : s.receiveByte b = s.frameByte len (got ++ [b]) := by
  rw [State.receiveByte, h]

/-- A byte that does not complete its frame (R146). -/
theorem State.frameByte_short {s : State} {len : Byte} {got : List Byte} (h : got.length ≠ len.toNat + 2) :
    s.frameByte len got = { s with link := { s.link with receiver := .receiving (some len) got 20 } } := by
  rw [State.frameByte, if_neg h]
  rfl

theorem State.byteEnds_receiver (s : State) : s.byteEnds.link.receiver = s.link.receiver := rfl
theorem State.byteEnds_errors (s : State) : s.byteEnds.link.errors = s.link.errors := rfl

/-- Settles O6: the frame receiver's cases (`State.receiveByte_hunting`, `_len`, `_body`) on the line after a good byte. -/
theorem receiverBytes : Obligations.ReceiverBytes := by
  intro s b hpower hwait heard
  have ended : s.byteEnds = heard := s.byteEnds_eq
  have taken := execLinkByte_taken ⟨hpower, hwait⟩ b
  refine ⟨fun hr hb => ?_, fun hr hb => ?_, fun got t hr hlo hhi => ?_, fun got t hr hout => ?_, fun len got t hr hlen => ?_⟩
  all_goals rw [taken]
  · rw [State.receiveByte_hunting (s := s.byteEnds) hr, if_neg hb, ended]
  · rw [State.receiveByte_hunting (s := s.byteEnds) hr, if_pos hb, ended]
  · rw [State.receiveByte_len (s := s.byteEnds) hr, if_pos ⟨hlo, hhi⟩, ended]
  · rw [State.receiveByte_len (s := s.byteEnds) hr, if_neg (by omega), s.byteEnds_errors, ended]
  · rw [State.receiveByte_body (s := s.byteEnds) hr, State.frameByte_short (by simp; omega), ended]

/-- Settles O7: a partial frame is dropped and counted (`Link.dropPartial_eq`). -/
theorem receiverAborts : Obligations.ReceiverAborts := by
  intro s
  refine ⟨fun hpower hwait => ?_, fun len got hr => ?_, fun len got n hr => ?_⟩
  · change execLinkFramingFault s = _
    rw [execLinkFramingFault, (s.takesNoByte_false_iff).2 ⟨hpower, hwait⟩, Link.dropPartial_eq]
    cases s.link.breakTimer <;> simp [Config.breakTime]
  · change execInterByteTimeout s = _
    simp [execInterByteTimeout, hr, timerDue, Link.dropPartial_eq]
  · change execInterByteTimeout s = _
    simp [execInterByteTimeout, hr, timerDue]

/-! ### A frame, byte by byte (R143, R146) -/

/-- The state after a good byte that leaves the frame receiver `r`. -/
def State.heard (s : State) (r : FrameReceiver) : State :=
  { s.byteEnds with link := { s.byteEnds.link with receiver := r } }

@[simp] theorem State.heard_receiver (s : State) (r : FrameReceiver) : (s.heard r).link.receiver = r := rfl

@[simp] theorem State.heard_errors (s : State) (r : FrameReceiver) : (s.heard r).link.errors = s.link.errors := rfl

/-- The line after a second good byte is as after the first. -/
theorem State.heard_byteEnds (s : State) (r : FrameReceiver) : (s.heard r).byteEnds = s.heard r := by
  rw [State.heard, s.byteEnds_eq]
  by_cases h : s.link.breakTimer = some 0
  · rw [if_pos h, State.byteEnds_eq, if_pos h]
  · rw [if_neg h, State.byteEnds_eq, if_neg nofun]

/-- The byte that completes a frame finds the same whatever the frame receiver held. -/
theorem State.heard_frameByte (s : State) (r : FrameReceiver) {len : Byte} {got : List Byte}
    (h : got.length = len.toNat + 2) : (s.heard r).frameByte len got = s.byteEnds.frameByte len got := by
  rw [State.frameByte, State.frameByte, if_pos h, if_pos h]
  rfl

theorem State.TakesBytes.heard {s : State} (h : s.TakesBytes) (r : FrameReceiver) : (s.heard r).TakesBytes := by
  obtain ⟨hpower, hwait⟩ := h
  refine ⟨hpower, ?_⟩
  rw [State.heard, s.byteEnds_eq]
  split
  · exact hwait
  · exact nofun

theorem State.frameByte_good (s : State) {q k : Byte} {p : List Byte} (hp : p.length ≤ 248) :
    s.frameByte (byteOf (p.length + 2)) (q :: k :: p ++ bytes2 (checkValue (byteOf (p.length + 2) :: q :: k :: p))) =
      ({ s with link := { s.link with receiver := .hunting } } : State).dispatch q k p := by
  have hlen : (byteOf (p.length + 2)).toNat = (q :: k :: p).length := byteOf_toNat (by omega)
  rw [State.frameByte, hlen, if_pos (by simp), List.take_left, List.drop_left]
  simp

theorem State.frameByte_damaged (s : State) {q k c d : Byte} {p : List Byte} (hp : p.length ≤ 248)
    (h : [c, d] ≠ bytes2 (checkValue (byteOf (p.length + 2) :: q :: k :: p))) :
    s.frameByte (byteOf (p.length + 2)) (q :: k :: p ++ [c, d]) =
      { s with link := { s.link with receiver := .hunting, errors := countUp s.link.errors } } := by
  have hlen : (byteOf (p.length + 2)).toNat = (q :: k :: p).length := byteOf_toNat (by omega)
  rw [State.frameByte, hlen, if_pos (by simp), List.take_left, List.drop_left]
  dsimp only
  rw [if_neg h.symm]
  rfl

/-- The bytes from SEQ on, up to the last of the frame, as one: the whole frame meets `frameByte`. -/
theorem execAll_body (len : Byte) (b : Byte) (rest : List Byte) :
    ∀ (s : State) (got : List Byte) (t : Nat), s.TakesBytes → s.link.receiver = .receiving (some len) got t →
      got.length + rest.length + 1 = len.toNat + 2 → execAll ((b :: rest).map Instr.linkByte) s =
        .next (s.byteEnds.frameByte len (got ++ b :: rest)) := by
  induction rest generalizing b with
  | nil =>
    intro s got t htakes hr _
    simp only [List.map_cons, List.map_nil, execAll, execLinkByte_taken htakes]
    rw [State.receiveByte_body (s := s.byteEnds) hr]
  | cons c rest ih =>
    intro s got t htakes hr hlen
    rw [List.length_cons] at hlen
    have first : exec (.linkByte b) s = .next (s.heard (.receiving (some len) (got ++ [b]) 20)) := by
      rw [execLinkByte_taken htakes, State.receiveByte_body (s := s.byteEnds) hr, State.frameByte_short (by simp; omega)]
      rfl
    rw [List.map_cons, execAll, first]
    dsimp only
    rw [ih c _ (got ++ [b]) 20 (htakes.heard _) rfl (by simp; omega), State.heard_byteEnds, List.append_assoc,
      List.singleton_append, s.heard_frameByte _ (by simp; omega)]

/-- SYNC and LEN bring the frame receiver to the bytes from SEQ on. -/
theorem execAll_frame {s : State} (htakes : s.TakesBytes) (hr : s.link.receiver = .hunting) {len b : Byte}
    {rest : List Byte} (hlo : 2 ≤ len.toNat) (hhi : len.toNat ≤ 250) (hlen : rest.length + 1 = len.toNat + 2) :
    execAll ((0xA7 :: len :: b :: rest).map Instr.linkByte) s = .next (s.byteEnds.frameByte len (b :: rest)) := by
  have sync : exec (.linkByte 0xA7) s = .next (s.heard (.receiving none [] 20)) := by
    rw [execLinkByte_taken htakes, State.receiveByte_hunting (s := s.byteEnds) hr, if_pos rfl]
    rfl
  have length : exec (.linkByte len) (s.heard (.receiving none [] 20)) = .next (s.heard (.receiving (some len) [] 20)) := by
    rw [execLinkByte_taken (htakes.heard _), State.heard_byteEnds, State.receiveByte_len (s.heard_receiver _),
      if_pos ⟨hlo, hhi⟩]
    rfl
  rw [List.map_cons, execAll, sync]
  dsimp only
  rw [List.map_cons, execAll, length]
  dsimp only
  rw [execAll_body len b rest _ [] 20 (htakes.heard _) rfl (by simpa using hlen), State.heard_byteEnds, List.nil_append,
    s.heard_frameByte _ (got := b :: rest) hlen]

/-- Settles O5: the bytes of a frame come to `State.frameByte` together (`execAll_frame`), and that dispatches a good frame in the
state in which its command does. -/
theorem frameByBytes : Obligations.FrameByBytes := by
  intro s q k p hp htakes hr body
  have hlen : (byteOf (p.length + 2)).toNat = p.length + 2 := byteOf_toNat (by omega)
  have run (c d : Byte) : execAll ((0xA7 :: body ++ [c, d]).map Instr.linkByte) s =
      .next (s.byteEnds.frameByte (byteOf (p.length + 2)) (q :: k :: p ++ [c, d])) :=
    execAll_frame (b := q) (rest := k :: p ++ [c, d]) htakes hr (by omega) (by omega) (by simp [hlen])
  refine ⟨fun i hi => ?_, fun c d hcheck => ?_⟩
  · rw [exec_frame hi, frameCommand_dispatch ⟨htakes.1, .inl htakes.2⟩ hp, ← s.byteEnds_hunting, ← State.frameByte_good _ hp]
    exact run _ _
  · rw [run, State.frameByte_damaged _ hp hcheck, ← s.byteEnds_hunting]
    rfl

/-! ### Levels of HRX, and the link reset (R142, R149, R150) -/

theorem execLinkReset_due {s : State} (hlive : s.power.qualified = .present) (hdue : s.link.breakTimer = some 0) :
    exec .linkReset s = .next (({ s with link := s.link.cleared } : State).closeSession .linkReset) := by
  change execLinkReset s = _
  rw [execLinkReset, if_pos ⟨s.resetDue_iff.2 hdue, s.linkHeld_false_iff.2 hlive⟩]

theorem execLinkReset_not_due {s : State} (h : s.link.breakTimer ≠ some 0) : exec .linkReset s = .next s := by
  change execLinkReset s = _
  rw [execLinkReset, if_neg fun ⟨hdue, _⟩ => h (s.resetDue_iff.1 hdue)]

/-- A frame and the link reset that is due, the frame first. -/
theorem frame_then_linkReset {s : State} {i : Instr} {q k : Byte} {p : List Byte} (hi : i.frame? = some (q, k, p))
    (hp : p.length ≤ 248) (hlive : s.power.qualified = .present) (hdue : s.link.breakTimer = some 0) :
    exec i s = .next (s.afterFrame.dispatch q k p) ∧ (s.afterFrame.dispatch q k p).link.breakTimer = some 0 ∧
      (s.afterFrame.dispatch q k p).power.qualified = .present := by
  obtain ⟨hpower, -, -, -, hlink⟩ := (s.afterFrame.dispatch_dispatched q k p hlive).frame
  refine ⟨?_, ?_, ?_⟩
  · rw [exec_frame hi, frameCommand_dispatch ⟨hlive, .inr hdue⟩ hp]
  · rw [hlink, s.afterFrame_link]
    exact if_pos hdue
  · rw [hpower]
    exact hlive

/-- Settles O8: the line levels and the reset by the branches of their commands; a frame that comes with the reset is dispatched and
keeps the break timer at 0 (`frame_then_linkReset`), and after the reset the waiting byte receiver takes none. -/
theorem breakAndLinkReset : Obligations.BreakAndLinkReset := by
  intro s mid
  refine ⟨fun hlive hhigh => ?_, fun hlive hlow => ?_, fun l habsent => ?_, fun hlive hdue => ?_, execLinkReset_not_due,
    fun i q k p hi hp hlive hdue => ⟨?_, ?_⟩⟩
  · change execHrxLevelChange .low mid s = _
    rw [execHrxLevelChange, if_neg (by simp [hhigh]), s.linkHeld_false_iff.2 hlive]
    cases s.link.byteReceiver <;> cases mid <;> rfl
  · change execHrxLevelChange .high mid s = _
    rw [execHrxLevelChange, if_neg (by simp [hlow]), s.linkHeld_false_iff.2 hlive]
    cases s.link.byteReceiver <;> rfl
  · change execHrxLevelChange l mid s = _
    unfold execHrxLevelChange
    split
    next h => rw [← h]
    next => exact if_pos (s.linkHeld_iff.2 habsent)
  · rw [execLinkReset_due hlive hdue, Link.cleared_eq]
    rcases State.closeSession_spec { s with link := s.link.cleared } .linkReset with ⟨h, e⟩ | ⟨h, e⟩
    · rw [Link.cleared_eq] at e
      rw [e, if_pos h, if_pos h]
    · rw [Link.cleared_eq] at e
      rw [e, if_neg h, if_neg h]
  · obtain ⟨hexec, hbreak, hpower⟩ := frame_then_linkReset hi hp hlive hdue
    refine ⟨_, _, hexec, hbreak, execLinkReset_due hpower hbreak, ?_⟩
    generalize s.afterFrame.dispatch q k p = u
    rcases State.closeSession_spec { u with link := u.link.cleared } .linkReset with ⟨h, e⟩ | ⟨h, e⟩ <;> rw [e]
    · exact ⟨rfl, rfl, rfl, rfl, h, fun hopen => absurd h hopen⟩
    · exact ⟨rfl, rfl, rfl, rfl, rfl, fun _ => ⟨rfl, rfl⟩⟩
  · refine ⟨_, execLinkReset_due hlive hdue, ?_⟩
    rw [exec_frame hi]
    refine frameCommand_not_taken (fun ⟨_, h⟩ => ?_) hp
    simp [Link.cleared] at h

/-! ### The dispatch of a good frame (R151) -/

theorem State.dispatch_setAside {s : State} (h : Config.replySlots ≤ s.link.replies.length) (q k : Byte) (p : List Byte) :
    s.dispatch q k p = { s with link := s.link.countError } := by
  rw [State.dispatch, if_pos h]

/-- A KIND that names a request kind. -/
theorem Kind.exists_of_contains {k : Byte} (h : requestKinds.contains k = true) : ∃ kind : Kind, k = kind.code := by
  cases hk : Kind.ofByte? k with
  | none => rw [(Kind.ofByte?_eq_none_iff k).1 hk] at h; cases h
  | some kind => exact ⟨kind, Kind.ofByte?_eq_some hk⟩

/-- Settles O9: the checks are the branches of `State.dispatch`, in its order. -/
theorem dispatchChecks : Obligations.DispatchChecks := by
  intro s i q k p hi hp
  refine ⟨fun h b => execLinkByte_not_taken h b, fun h => ?_, fun htakes hfull => ?_, fun htakes hroom => ?_⟩
  · rw [exec_frame hi, frameCommand_not_taken h hp]
  · rw [exec_frame hi, frameCommand_dispatch htakes hp, State.dispatch_setAside (s := s.afterFrame) hfull]
    rfl
  · have refused (st : Status) (h : s.afterFrame.dispatch q k p = s.afterFrame.reply (statusReply q k st)) :
        ∃ t, exec i s = .next t ∧ s.afterFrame.Answered t { seq := q, kind := k, payload := [st.code], restart := false } := by
      refine ⟨_, by rw [exec_frame hi, frameCommand_dispatch htakes hp], ?_⟩
      rw [h]
      exact s.afterFrame.reply_answered _ htakes.1
    have free : ¬Config.replySlots ≤ s.afterFrame.link.replies.length := Nat.not_le.2 hroom
    refine ⟨fun hq => refused .badValue ?_, fun hq hk => refused .unknownRequest ?_, fun hq hk hneeds hclosed =>
      refused .noSession ?_⟩
    · rw [State.dispatch, if_neg free, if_pos hq]
    · rw [State.dispatch, if_neg free, if_neg hq, (Kind.ofByte?_eq_none_iff k).2 hk]
    · obtain ⟨kind, rfl⟩ := Kind.exists_of_contains hk
      have hopen : s.afterFrame.session.isOpen = false := by simp [SessionBlock.isOpen, hclosed]
      have needs : kind.needsSession = true := by
        cases kind <;> first | rfl | exact absurd (by decide) hneeds
      rw [State.dispatch, if_neg free, if_neg hq, Kind.ofByte?_code]
      exact if_pos ⟨hopen, needs⟩

/-- Settles O11: check 5 of the dispatch. -/
theorem repeatAnswered : Obligations.RepeatAnswered := by
  intro s i q k p o r hi hp htakes hroom hq hk hopening ho hsaved hseq hkind
  obtain ⟨kind, rfl⟩ := Kind.exists_of_contains hk
  have hopen : ¬(s.afterFrame.session.isOpen = false ∧ kind.needsSession = true) := by simp [SessionBlock.isOpen, ho]
  have repeated : s.afterFrame.repeated? q kind = some r := by
    have : kind ≠ .openSession := fun h => hopening (by rw [h]; rfl)
    simp [State.repeated?, ho, hsaved, this, hseq, hkind]
  refine ⟨_, by rw [exec_frame hi, frameCommand_dispatch htakes hp], ?_⟩
  have free : ¬Config.replySlots ≤ s.afterFrame.link.replies.length := Nat.not_le.2 hroom
  rw [State.dispatch, if_neg free, if_neg hq, Kind.ofByte?_code]
  dsimp only
  rw [if_neg hopen, repeated]
  exact State.arbitrate_spec _

/-- Settles O12: what a dispatched frame can leave (`State.Dispatched`), with a slot free. -/
theorem oneReply : Obligations.OneReply := by
  intro s i q k p hi hp htakes hroom
  have hd := s.afterFrame.dispatch_dispatched q k p htakes.1
  have hexec : exec i s = .next (s.afterFrame.dispatch q k p) := by rw [exec_frame hi, frameCommand_dispatch htakes hp]
  generalize s.afterFrame.dispatch q k p = t at hd hexec
  obtain ⟨-, -, hpins, -, hlink⟩ := hd.frame
  have line : t.link.byteReceiver = s.afterFrame.link.byteReceiver ∧ t.link.breakTimer = s.afterFrame.link.breakTimer := by
    rw [hlink]
    exact ⟨rfl, rfl⟩
  obtain ⟨hbytes, hbreak⟩ := line
  suffices reply : ∃ r : Reply, t.link.replies = s.link.replies ++ [r] ∧ r.seq = q ∧ r.kind = k ∧
      ((∃ o, s.session.opened = some o ∧ o.saved = some r) ∨ ∃ status items, r.payload = status :: items ∧
        (status ≠ 0x00 → items = [] ∧ s.afterFrame.Answered t r)) by
    obtain ⟨r, hr, hseq, hkind, hcase⟩ := reply
    exact ⟨t, r, hexec, hr, hseq, hkind, hpins, hbytes, hbreak, hcase⟩
  cases hd with
  | setAside hfull _ => exact absurd hroom (Nat.not_lt.2 hfull)
  | refused _ st h => exact ⟨_, h.replies_eq, rfl, rfl, .inr ⟨_, _, rfl, fun _ => ⟨rfl, h⟩⟩⟩
  | repeated _ r ho hseq hkind ht =>
    obtain ⟨o, ho, hsaved⟩ := ho
    refine ⟨r, ?_, hseq, hkind, .inl ⟨o, ho, hsaved⟩⟩
    rw [ht, State.arbitrate_link, State.enqueueReply_link]
    rfl
  | accepted _ hq kind hk items s' hneeds ha h =>
    obtain ⟨hkept, -⟩ := answerOf_accept_keeps ha
    exact ⟨_, by rw [h.replies_eq, hkept]; rfl, rfl, hk.symm, .inr ⟨_, _, rfl, fun hstatus => absurd rfl hstatus⟩⟩

end Sys2Proof.Machine
end

section
/-! PROOFS. The checks on a payload (R151, check 6): which bytes each field takes (sections 11.3, 11.4), and which lengths and fields
each kind of request takes. -/
namespace Sys2Proof.Machine

/-! ### The bytes that a field takes -/

theorem index?_isSome {n : Nat} (b : Byte) : (index? n b).isSome = decide (b.toNat < n) := by
  unfold index?
  split <;> simp [*]

theorem index?_eq_some_iff {n : Nat} {b : Byte} {i : Fin n} : index? n b = some i ↔ i.val = b.toNat := by
  unfold index?
  split
  next h => simp [Fin.ext_iff, eq_comm (a := i.val)]
  next h => simpa using fun e : i.val = b.toNat => h (e ▸ i.isLt)

theorem yesNo?_isSome (b : Byte) : (yesNo? b).isSome = decide (b.toNat ≤ 1) := by
  unfold yesNo?
  (repeat' split) <;> simp <;> bv_omega

theorem SourceMode.ofCode?_isSome (b : Byte) : (SourceMode.ofCode? b).isSome = decide (b.toNat ≤ 1) := by
  unfold SourceMode.ofCode?
  (repeat' split) <;> simp <;> bv_omega

theorem Rate.ofCode?_isSome (b : Byte) : (Rate.ofCode? b).isSome = decide (1 ≤ b.toNat ∧ b.toNat ≤ 8) := by
  unfold Rate.ofCode?
  (repeat' split) <;> simp <;> bv_omega

theorem DataBits.ofCode?_isSome (b : Byte) : (DataBits.ofCode? b).isSome = decide (b.toNat = 7 ∨ b.toNat = 8) := by
  unfold DataBits.ofCode?
  (repeat' split) <;> simp <;> bv_omega

theorem Parity.ofCode?_isSome (b : Byte) : (Parity.ofCode? b).isSome = decide (1 ≤ b.toNat ∧ b.toNat ≤ 3) := by
  unfold Parity.ofCode?
  (repeat' split) <;> simp <;> bv_omega

theorem Domain.ofCode?_isSome (b : Byte) : (Domain.ofCode? b).isSome = decide (1 ≤ b.toNat ∧ b.toNat ≤ 2) := by
  unfold Domain.ofCode?
  (repeat' split) <;> simp <;> bv_omega

theorem ErrorKind.ofCode?_isSome (b : Byte) : (ErrorKind.ofCode? b).isSome = decide (1 ≤ b.toNat ∧ b.toNat ≤ 3) := by
  unfold ErrorKind.ofCode?
  (repeat' split) <;> simp <;> bv_omega

theorem Selection.ofCode?_isSome (b : Byte) : (Selection.ofCode? b).isSome = decide (b.toNat ≤ 3) := by
  unfold Selection.ofCode?
  (repeat' split) <;> simp <;> bv_omega

theorem WakeMode.ofCode?_isSome (b : Byte) : (WakeMode.ofCode? b).isSome = decide (b.toNat ≤ 1) := by
  unfold WakeMode.ofCode?
  (repeat' split) <;> simp <;> bv_omega

theorem Gate.ofCode?_isSome (b : Byte) : (Gate.ofCode? b).isSome = decide (b.toNat ≤ 1) := by
  unfold Gate.ofCode?
  (repeat' split) <;> simp <;> bv_omega

theorem contactPolarity?_isSome (b : Byte) : (contactPolarity? b).isSome = decide (b.toNat ≤ 1) := by
  unfold contactPolarity?
  (repeat' split) <;> simp <;> bv_omega

theorem wakePolarity?_isSome (b : Byte) : (wakePolarity? b).isSome = decide (b.toNat ≤ 1) := by
  unfold wakePolarity?
  (repeat' split) <;> simp <;> bv_omega

theorem debounce?_isSome (b : Byte) :
    (debounce? b).isSome = decide (b.toNat = 0 ∨ b.toNat = 5 ∨ b.toNat = 20 ∨ b.toNat = 50) := by
  unfold debounce?
  split <;> simp <;> bv_omega

theorem settleTime?_isSome (h : Half) : (settleTime? h).isSome = decide (h.toNat ≤ 2000) := by
  unfold settleTime?
  split <;> simp [*]

theorem spacing?_isSome (h : Half) : (spacing? h).isSome = decide (h.toNat ≤ 1000) := by
  unfold spacing?
  split <;> simp [*]

theorem sourceSet?_isSome (b : Byte) : (sourceSet? b).isSome = decide (b.toNat ≤ 127) := by
  have bit : b.getLsbD 7 = decide (128 ≤ b.toNat) := by
    have := b.isLt
    rw [← BitVec.testBit_toNat, Nat.testBit_eq_decide_div_mod_eq]
    congr 1
    simp only [eq_iff_iff]
    omega
  unfold sourceSet?
  rw [bit]
  split <;> simp_all <;> omega

theorem outputSet?_isSome (b : Byte) : (outputSet? b).isSome = decide (b.toNat ≤ 15) := by
  revert b
  decide

theorem join2_toNat (a b : Byte) : (join2 a b).toNat = a.toNat * 256 + b.toNat := by
  have := b.isLt
  rw [join2, BitVec.toNat_append, ← Nat.shiftLeft_add_eq_or_of_lt b.isLt, Nat.shiftLeft_eq]

/-! ### Configurations -/

/-- A field that is read whatever the one before it holds. -/
theorem isSome_bind_of_forall {α β : Type} {x : Option α} {f : α → Option β} {p : Bool} (h : ∀ a, (f a).isSome = p) :
    (x >>= f).isSome = (x.isSome && p) := by
  cases x with
  | none => rfl
  | some a => simpa using h a

theorem contactConfig?_isSome (polarity debounce selection : Byte) :
    (contactConfig? polarity debounce selection).isSome =
      decide (polarity.toNat ≤ 1 ∧ (debounce.toNat = 0 ∨ debounce.toNat = 5 ∨ debounce.toNat = 20 ∨ debounce.toNat = 50) ∧
        selection.toNat ≤ 3) := by
  have fields : (contactConfig? polarity debounce selection).isSome =
      ((contactPolarity? polarity).isSome && ((debounce? debounce).isSome && ((Selection.ofCode? selection).isSome && true))) :=
    isSome_bind_of_forall fun _ => isSome_bind_of_forall fun _ => isSome_bind_of_forall fun _ => rfl
  simp only [fields, contactPolarity?_isSome, debounce?_isSome, Selection.ofCode?_isSome, Bool.and_true, Bool.decide_and]

theorem wakeConfig?_isSome (enable mode polarity width gate autoClear : Byte) :
    (wakeConfig? enable mode polarity width gate autoClear).isSome =
      decide (enable.toNat ≤ 1 ∧ mode.toNat ≤ 1 ∧ polarity.toNat ≤ 1 ∧ gate.toNat ≤ 1 ∧ autoClear.toNat ≤ 1 ∧
        1 ≤ width.toNat) := by
  have fields : (wakeConfig? enable mode polarity width gate autoClear).isSome =
      ((yesNo? enable).isSome && ((WakeMode.ofCode? mode).isSome && ((wakePolarity? polarity).isSome &&
        ((Gate.ofCode? gate).isSome && ((yesNo? autoClear).isSome && decide (1 ≤ width.toNat)))))) :=
    isSome_bind_of_forall fun _ => isSome_bind_of_forall fun _ => isSome_bind_of_forall fun _ =>
      isSome_bind_of_forall fun _ => isSome_bind_of_forall fun _ => by split <;> simp <;> bv_omega
  simp only [fields, yesNo?_isSome, WakeMode.ofCode?_isSome, wakePolarity?_isSome, Gate.ofCode?_isSome, Bool.decide_and]

theorem RawSource.common?_isSome (r : RawSource) :
    r.common?.isSome = decide (r.enable.toNat ≤ 1 ∧ r.mode.toNat ≤ 1 ∧ r.settleTime.toNat ≤ 2000 ∧ r.reporting.toNat ≤ 1 ∧
      r.spacing.toNat ≤ 1000) := by
  have fields : r.common?.isSome = ((yesNo? r.enable).isSome && ((SourceMode.ofCode? r.mode).isSome &&
      ((settleTime? r.settleTime).isSome && ((yesNo? r.reporting).isSome && ((spacing? r.spacing).isSome && true))))) :=
    isSome_bind_of_forall fun _ => isSome_bind_of_forall fun _ => isSome_bind_of_forall fun _ =>
      isSome_bind_of_forall fun _ => isSome_bind_of_forall fun _ => rfl
  simp only [fields, yesNo?_isSome, SourceMode.ofCode?_isSome, settleTime?_isSome, spacing?_isSome, Bool.and_true,
    Bool.decide_and]

theorem RawSource.line?_isSome (r : RawSource) :
    r.line?.isSome = decide ((1 ≤ r.rate.toNat ∧ r.rate.toNat ≤ 8) ∧ (r.dataBits.toNat = 7 ∨ r.dataBits.toNat = 8) ∧
      (1 ≤ r.parity.toNat ∧ r.parity.toNat ≤ 3) ∧ 1 ≤ r.domain.toNat ∧ r.domain.toNat ≤ 2) := by
  have fields : r.line?.isSome = ((Rate.ofCode? r.rate).isSome && ((DataBits.ofCode? r.dataBits).isSome &&
      ((Parity.ofCode? r.parity).isSome && ((Domain.ofCode? r.domain).isSome && true)))) :=
    isSome_bind_of_forall fun _ => isSome_bind_of_forall fun _ => isSome_bind_of_forall fun _ =>
      isSome_bind_of_forall fun _ => rfl
  simp only [fields, Rate.ofCode?_isSome, DataBits.ofCode?_isSome, Parity.ofCode?_isSome, Domain.ofCode?_isSome,
    Bool.and_true, Bool.decide_and]

theorem RawSource.lineFor?_isSome_iff (r : RawSource) (src : SourceId) :
    (r.lineFor? src).isSome = true ↔
      (src.val < 6 → 1 ≤ r.rate.toNat ∧ r.rate.toNat ≤ 8 ∧ (r.dataBits.toNat = 7 ∨ r.dataBits.toNat = 8) ∧
        1 ≤ r.parity.toNat ∧ r.parity.toNat ≤ 3 ∧ 1 ≤ r.domain.toNat ∧ r.domain.toNat ≤ 2) ∧
      (src.val = 6 → r.rate.toNat = 0 ∧ r.dataBits.toNat = 0 ∧ r.parity.toNat = 0 ∧ r.domain.toNat = 0) := by
  have zero (b : Byte) : b = 0#8 ↔ b.toNat = 0 := by bv_omega
  unfold RawSource.lineFor?
  by_cases hsrc : src.val < 6
  · have : src.val ≠ 6 := by omega
    simp only [serialOf?, hsrc, dif_pos, Option.isSome_map, r.line?_isSome, decide_eq_true_eq, this, true_imp_iff,
      false_imp_iff, and_true, and_assoc]
  · have : src.val = 6 := by omega
    simp [serialOf?, this, RawSource.lineZero, zero]

/-! ### Injection entries (R89, R90) -/

theorem pairs?_eq_none_iff (n : Nat) (bs : List Byte) : pairs? n bs = none ↔ bs.length ≠ 2 * n := by
  induction n generalizing bs with
  | zero => cases bs <;> simp [pairs?]
  | succ n ih =>
    match bs with
    | [] => simp [pairs?]
    | [_] => simp [pairs?]; omega
    | a :: b :: rest => simp [pairs?, ih]; omega

/-- The pairs are the bytes two by two. -/
theorem pairs?_get {n : Nat} {bs : List Byte} {es : List (Byte × Byte)} (h : pairs? n bs = some es) :
    es = (List.range n).map fun j => (bs.getD (2 * j) 0, bs.getD (2 * j + 1) 0) := by
  induction n generalizing bs es with
  | zero =>
    cases bs with
    | nil => cases h; rfl
    | cons b bs => cases h
  | succ n ih =>
    match bs with
    | [] => cases h
    | [_] => cases h
    | a :: b :: rest =>
      obtain ⟨es, hes, rfl⟩ := Option.map_eq_some_iff.1 h
      rw [ih hes, List.range_succ_eq_map, List.map_cons, List.map_map]
      rfl

/-- The entries that a line may be given. -/
def EntryFits (line : Option LineConfig) (e : Byte × Byte) : Prop :=
  ∃ x, injectionEntry? e = some x ∧ entryAllowed line x = true

theorem injectionEntries?_isSome_iff (line : Option LineConfig) (es : List (Byte × Byte)) :
    (injectionEntries? line es).isSome = true ↔ ∀ e ∈ es, EntryFits line e := by
  induction es with
  | nil => simp [injectionEntries?]
  | cons e es ih =>
    rw [List.forall_mem_cons, ← ih, injectionEntries?, EntryFits]
    cases injectionEntry? e with
    | none => simp
    | some x => cases injectionEntries? line es <;> simp

/-- R90 and R185, in numbers. -/
theorem entryFits_iff (line : Option LineConfig) (e : Byte × Byte) :
    EntryFits line e ↔ e.1.toNat ≤ 1 ∧ (e.1.toNat = 1 → 1 ≤ e.2.toNat ∧ e.2.toNat ≤ 3) ∧
      (∀ l ∈ line, l.dataBits = .seven → e.1.toNat = 0 → e.2.toNat ≤ 127) ∧
      (line = none → e.1.toNat = 0 ∧ (e.2.toNat ≤ 7 ∨ (16 ≤ e.2.toNat ∧ e.2.toNat ≤ 23))) := by
  obtain ⟨type, v⟩ := e
  have zero : type = 0 ↔ type.toNat = 0 := by bv_omega
  have one : type = 1 ↔ type.toNat = 1 := by bv_omega
  unfold EntryFits injectionEntry?
  dsimp only
  by_cases h0 : type.toNat = 0
  · rw [if_pos (zero.2 h0)]
    cases line with
    | none => simp [entryAllowed, h0]
    | some l => cases hl : l.dataBits <;> simp [entryAllowed, h0, hl]
  · rw [if_neg (mt zero.1 h0)]
    by_cases h1 : type.toNat = 1
    · rw [if_pos (one.2 h1)]
      have kinds := ErrorKind.ofCode?_isSome v
      cases hv : ErrorKind.ofCode? v <;> cases line <;> simp_all [entryAllowed]
    · rw [if_neg (mt one.1 h1)]
      have : ¬type.toNat ≤ 1 := by omega
      simp [this]

/-! ### An answer and check 6 (R151) -/

theorem eq_two_bytes {p : List Byte} (h : p.length = 2) : ∃ b c, p = [b, c] := by
  match p, h with
  | [b, c], _ => exact ⟨b, c, rfl⟩

theorem eq_three_bytes {p : List Byte} (h : p.length = 3) : ∃ b c e, p = [b, c, e] := by
  match p, h with
  | [b, c, e], _ => exact ⟨b, c, e, rfl⟩

/-- How check 6 decides on a payload: by its length, then by its fields; an answer that passes it is neither refusal. -/
def Answer.Checked (a : Answer) (length fields : Bool) : Prop :=
  (length = false → a = .refuse .badLength) ∧ (length = true → fields = false → a = .refuse .badValue) ∧
    (length = true → fields = true → a ≠ .refuse .badLength ∧ a ≠ .refuse .badValue)

theorem Answer.checked_badLength {length fields : Bool} (h : length = false) :
    (Answer.refuse .badLength).Checked length fields := by
  simp [Answer.Checked, h]

theorem Answer.checked_badValue {length fields : Bool} (hl : length = true) (hf : fields = false) :
    (Answer.refuse .badValue).Checked length fields := by
  simp [Answer.Checked, hl, hf]

theorem Answer.checked_passed {a : Answer} {length fields : Bool} (hl : length = true) (hf : fields = true)
    (h₁ : a ≠ .refuse .badLength) (h₂ : a ≠ .refuse .badValue) : a.Checked length fields := by
  simp [Answer.Checked, hl, hf, h₁, h₂]

/-- The kinds whose request carries no payload. -/
theorem answerOf_checked_empty {k : Kind} (hk : k ∈ [.identify, .readStatus, .closeSession, .holdNotices, .releaseNotices,
    .restart, .readContacts, .readWake]) (p : List Byte) (s : State) :
    (answerOf k p s).Checked (k.lengthFits p) (s.fieldsFit k p) := by
  cases p with
  | cons b p =>
    have short : answerOf k (b :: p) s = .refuse .badLength := by
      simp only [List.mem_cons, List.not_mem_nil, or_false] at hk
      rcases hk with rfl | rfl | rfl | rfl | rfl | rfl | rfl | rfl <;> rfl
    rw [short]
    apply Answer.checked_badLength
    simp only [List.mem_cons, List.not_mem_nil, or_false] at hk
    rcases hk with rfl | rfl | rfl | rfl | rfl | rfl | rfl | rfl <;> simp [Kind.lengthFits]
  | nil =>
    have accepted : ∃ items s', answerOf k [] s = .accept items s' := by
      simp only [List.mem_cons, List.not_mem_nil, or_false] at hk
      rcases hk with rfl | rfl | rfl | rfl | rfl | rfl | rfl | rfl <;> simp only [answerOf]
      case inr.inr.inr.inl => unfold answerHoldNotices; dsimp only; split <;> exact ⟨_, _, rfl⟩
      case inr.inr.inr.inr.inl => unfold answerReleaseNotices; dsimp only; split <;> exact ⟨_, _, rfl⟩
      all_goals exact ⟨_, _, rfl⟩
    obtain ⟨items, s', e⟩ := accepted
    rw [e]
    simp only [List.mem_cons, List.not_mem_nil, or_false] at hk
    refine Answer.checked_passed ?_ ?_ nofun nofun <;>
      rcases hk with rfl | rfl | rfl | rfl | rfl | rfl | rfl | rfl <;> rfl

/-- An answer that refuses its fields exactly where a reading `x` of them fails. -/
theorem Answer.checked_read {α : Type} {a : Answer} {x : Option α} {length fields : Bool} (hl : length = true)
    (hf : fields = x.isSome) (hnone : x = none → a = .refuse .badValue)
    (hsome : ∀ y, x = some y → a ≠ .refuse .badLength ∧ a ≠ .refuse .badValue) : a.Checked length fields := by
  cases x with
  | none =>
    rw [hnone rfl]
    exact Answer.checked_badValue hl hf
  | some y => exact Answer.checked_passed hl hf (hsome y rfl).1 (hsome y rfl).2

/-- The kinds whose request carries one number or one set. -/
theorem answerOf_checked_byte {k : Kind} (hk : k ∈ [.readSource, .cancelInject, .armPattern, .stopPattern, .erasePattern,
    .readTrackers, .flushTrackers, .clearWake]) (p : List Byte) (s : State) :
    (answerOf k p s).Checked (k.lengthFits p) (s.fieldsFit k p) := by
  simp only [List.mem_cons, List.not_mem_nil, or_false] at hk
  match p with
  | [] => rcases hk with rfl | rfl | rfl | rfl | rfl | rfl | rfl | rfl <;> exact Answer.checked_badLength rfl
  | a :: b :: p =>
    rcases hk with rfl | rfl | rfl | rfl | rfl | rfl | rfl | rfl <;>
      exact Answer.checked_badLength (by simp [Kind.lengthFits])
  | [b] =>
    rcases hk with rfl | rfl | rfl | rfl | rfl | rfl | rfl | rfl
    · refine Answer.checked_read (x := index? 7 b) rfl ?_ (fun h => ?_) fun i h => ?_
      · simp [index?_isSome, State.fieldsFit, Nat.lt_succ_iff]
      · simp only [answerOf, answerReadSource, h]
      · simp only [answerOf, answerReadSource, h]
        exact ⟨nofun, nofun⟩
    case inr.inl =>
      refine Answer.checked_read (x := index? 7 b) rfl ?_ (fun h => ?_) fun i h => ?_
      · simp [index?_isSome, State.fieldsFit, Nat.lt_succ_iff]
      · simp only [answerOf, answerCancelInject, h]
      · simp only [answerOf, answerCancelInject, h]
        split <;> exact ⟨nofun, nofun⟩
    case inr.inr.inl =>
      refine Answer.checked_read (x := index? 32 b) rfl ?_ (fun h => ?_) fun i h => ?_
      · simp [index?_isSome, State.fieldsFit, Nat.lt_succ_iff]
      · simp only [answerOf, answerArmPattern, h]
      · simp only [answerOf, answerArmPattern, h]
        split <;> exact ⟨nofun, nofun⟩
    case inr.inr.inr.inl =>
      refine Answer.checked_read (x := index? 32 b) rfl ?_ (fun h => ?_) fun i h => ?_
      · simp [index?_isSome, State.fieldsFit, Nat.lt_succ_iff]
      · simp only [answerOf, answerStopPattern, h]
      · simp only [answerOf, answerStopPattern, h]
        (repeat' split) <;> exact ⟨nofun, nofun⟩
    case inr.inr.inr.inr.inl =>
      refine Answer.checked_read (x := index? 32 b) rfl ?_ (fun h => ?_) fun i h => ?_
      · simp [index?_isSome, State.fieldsFit, Nat.lt_succ_iff]
      · simp only [answerOf, answerErasePattern, h]
      · simp only [answerOf, answerErasePattern, h]
        (repeat' split) <;> exact ⟨nofun, nofun⟩
    case inr.inr.inr.inr.inr.inl =>
      refine Answer.checked_read (x := index? 24 b) rfl ?_ (fun h => ?_) fun i h => ?_
      · simp [index?_isSome, State.fieldsFit, Nat.lt_succ_iff]
      · simp only [answerOf, answerReadTrackers, h]
      · simp only [answerOf, answerReadTrackers, h]
        exact ⟨nofun, nofun⟩
    case inr.inr.inr.inr.inr.inr.inl =>
      refine Answer.checked_read (x := sourceSet? b) rfl (sourceSet?_isSome b).symm (fun h => ?_) fun i h => ?_
      · simp only [answerOf, answerFlushTrackers, h]
      · simp only [answerOf, answerFlushTrackers, h]
        exact ⟨nofun, nofun⟩
    case inr.inr.inr.inr.inr.inr.inr =>
      refine Answer.checked_read (x := outputSet? b) rfl (outputSet?_isSome b).symm (fun h => ?_) fun i h => ?_
      · simp only [answerOf, answerClearWake, h]
      · simp only [answerOf, answerClearWake, h]
        exact ⟨nofun, nofun⟩

/-- The kinds whose request carries a fixed number of bytes, two or more: the answer to any other length (R151). -/
theorem answerOf_of_length {k : Kind} {n : Nat} (hk : (k, n) ∈ [(.ackEvents, 2), (.readPattern, 2), (.openSession, 3),
    (.setClock, 4), (.setContact, 4), (.setWake, 7), (.setSource, 12)]) {p : List Byte} (hp : p.length ≠ n) (s : State) :
    answerOf k p s = .refuse .badLength := by
  have not_fixed {q : List Byte} (h : q.length = n) : p ≠ q := fun e => hp (e ▸ h)
  simp only [List.mem_cons, Prod.mk.injEq, List.not_mem_nil, or_false] at hk
  rcases hk with ⟨rfl, rfl⟩ | ⟨rfl, rfl⟩ | ⟨rfl, rfl⟩ | ⟨rfl, rfl⟩ | ⟨rfl, rfl⟩ | ⟨rfl, rfl⟩ | ⟨rfl, rfl⟩
  · rw [answerOf, answerAckEvents]
    exact fun _ _ => not_fixed rfl
  · rw [answerOf, answerReadPattern]
    exact fun _ _ => not_fixed rfl
  · rw [answerOf, answerOpenSession]
    exact fun _ _ _ => not_fixed rfl
  · rw [answerOf, answerSetClock]
    exact fun _ _ _ _ => not_fixed rfl
  · rw [answerOf, answerSetContact]
    exact fun _ _ _ _ => not_fixed rfl
  · rw [answerOf, answerSetWake]
    exact fun _ _ _ _ _ _ _ => not_fixed rfl
  · have : RawSource.parse p = none := by
      rw [RawSource.parse]
      exact fun _ _ _ _ _ _ _ _ _ _ _ _ => not_fixed rfl
    rw [answerOf, answerSetSource, this]

theorem answerOf_checked_ackEvents (p : List Byte) (s : State) :
    (answerOf .ackEvents p s).Checked (Kind.ackEvents.lengthFits p) (s.fieldsFit .ackEvents p) := by
  by_cases hp : p.length = 2
  · obtain ⟨hi, lo, rfl⟩ := eq_two_bytes hp
    have passed : answerOf .ackEvents [hi, lo] s ≠ .refuse .badLength ∧ answerOf .ackEvents [hi, lo] s ≠ .refuse .badValue := by
      simp only [answerOf, answerAckEvents]
      split <;> exact ⟨nofun, nofun⟩
    exact Answer.checked_passed rfl rfl passed.1 passed.2
  · rw [answerOf_of_length (n := 2) (by simp) hp]
    exact Answer.checked_badLength (by simpa [Kind.lengthFits] using hp)

theorem answerOf_checked_setClock (p : List Byte) (s : State) :
    (answerOf .setClock p s).Checked (Kind.setClock.lengthFits p) (s.fieldsFit .setClock p) := by
  by_cases hp : p.length = 4
  · match p, hp with
    | [a, b, c, d], _ => exact Answer.checked_passed rfl rfl nofun nofun
  · rw [answerOf_of_length (n := 4) (by simp) hp]
    exact Answer.checked_badLength (by simpa [Kind.lengthFits] using hp)

theorem answerOf_checked_openSession (p : List Byte) (s : State) :
    (answerOf .openSession p s).Checked (Kind.openSession.lengthFits p) (s.fieldsFit .openSession p) := by
  by_cases hp : p.length = 3
  · obtain ⟨window, t1, t0, rfl⟩ := eq_three_bytes hp
    have time := join2_toNat t1 t0
    have fields : s.fieldsFit .openSession [window, t1, t0] =
        decide ¬(window.toNat < 1 ∨ 8 < window.toNat ∨ (join2 t1 t0).toNat < 20 ∨ 5000 < (join2 t1 t0).toNat) := by
      rw [time]
      apply decide_eq_decide.2
      simp only [List.getD_cons_zero, List.getD_cons_succ, not_or, Nat.not_lt]
    simp only [answerOf, answerOpenSession]
    split
    next h => exact Answer.checked_badValue rfl (fields.trans (decide_eq_false (Classical.not_not.2 h)))
    next h => exact Answer.checked_passed rfl (fields.trans (decide_eq_true h)) nofun nofun
  · rw [answerOf_of_length (n := 3) (by simp) hp]
    exact Answer.checked_badLength (by simpa [Kind.lengthFits] using hp)

theorem answerOf_checked_readPattern (p : List Byte) (s : State) :
    (answerOf .readPattern p s).Checked (Kind.readPattern.lengthFits p) (s.fieldsFit .readPattern p) := by
  by_cases hp : p.length = 2
  · obtain ⟨b, c, rfl⟩ := eq_two_bytes hp
    have fields : s.fieldsFit .readPattern [b, c] = ((index? 32 b).isSome && (yesNo? c).isSome) := by
      simp [State.fieldsFit, index?_isSome, yesNo?_isSome, Nat.lt_succ_iff]
    simp only [answerOf, answerReadPattern]
    split
    next i clear hi hc =>
      have passes : (index? 32 b).isSome && (yesNo? c).isSome := by rw [hi, hc]; rfl
      split <;> exact Answer.checked_passed rfl (fields.trans passes) nofun nofun
    next h =>
      refine Answer.checked_badValue rfl (fields.trans ?_)
      cases hi : index? 32 b <;> cases hc : yesNo? c <;> first | rfl | exact absurd hc (h _ _ hi)
  · rw [answerOf_of_length (n := 2) (by simp) hp]
    exact Answer.checked_badLength (by simpa [Kind.lengthFits] using hp)

theorem answerOf_checked_setContact (p : List Byte) (s : State) :
    (answerOf .setContact p s).Checked (Kind.setContact.lengthFits p) (s.fieldsFit .setContact p) := by
  by_cases hp : p.length = 4
  · match p, hp with
    | [b, polarity, debounce, selection], _ =>
      have fields : s.fieldsFit .setContact [b, polarity, debounce, selection] =
          ((index? 8 b).isSome && (contactConfig? polarity debounce selection).isSome) := by
        simp [State.fieldsFit, index?_isSome, contactConfig?_isSome, Nat.lt_succ_iff]
      simp only [answerOf, answerSetContact]
      split
      next i cfg hi hc =>
        have passes : (index? 8 b).isSome && (contactConfig? polarity debounce selection).isSome := by rw [hi, hc]; rfl
        exact Answer.checked_passed rfl (fields.trans passes) nofun nofun
      next h =>
        refine Answer.checked_badValue rfl (fields.trans ?_)
        cases hi : index? 8 b <;> cases hc : contactConfig? polarity debounce selection <;>
          first | rfl | exact absurd hc (h _ _ hi)
  · rw [answerOf_of_length (n := 4) (by simp) hp]
    exact Answer.checked_badLength (by simpa [Kind.lengthFits] using hp)

theorem answerOf_checked_setWake (p : List Byte) (s : State) :
    (answerOf .setWake p s).Checked (Kind.setWake.lengthFits p) (s.fieldsFit .setWake p) := by
  by_cases hp : p.length = 7
  · match p, hp with
    | [b, enable, mode, polarity, width, gate, autoClear], _ =>
      have fields : s.fieldsFit .setWake [b, enable, mode, polarity, width, gate, autoClear] =
          ((index? 4 b).isSome && (wakeConfig? enable mode polarity width gate autoClear).isSome) := by
        rw [index?_isSome, wakeConfig?_isSome, ← Bool.decide_and]
        apply decide_eq_decide.2
        simp only [List.getD_cons_zero, List.getD_cons_succ]
        omega
      simp only [answerOf, answerSetWake]
      split
      next i cfg hi hc =>
        have passes : (index? 4 b).isSome && (wakeConfig? enable mode polarity width gate autoClear).isSome := by
          rw [hi, hc]; rfl
        exact Answer.checked_passed rfl (fields.trans passes) nofun nofun
      next h =>
        refine Answer.checked_badValue rfl (fields.trans ?_)
        cases hi : index? 4 b <;> cases hc : wakeConfig? enable mode polarity width gate autoClear <;>
          first | rfl | exact absurd hc (h _ _ hi)
  · rw [answerOf_of_length (n := 7) (by simp) hp]
    exact Answer.checked_badLength (by simpa [Kind.lengthFits] using hp)

/-- The fields of SET_SOURCE, read one by one. -/
theorem fieldsFit_setSource (s : State) {b : Byte} {raw : RawSource} {p : List Byte}
    (hp : RawSource.parse p = some (b, raw)) :
    s.fieldsFit .setSource p = true ↔
      ∃ src, index? 7 b = some src ∧ raw.common?.isSome = true ∧ (raw.lineFor? src).isSome = true := by
  unfold RawSource.parse at hp
  split at hp
  next _ en mode rate bits par dom s1 s0 rep i1 i0 =>
    cases hp
    simp only [index?_eq_some_iff, RawSource.common?_isSome, RawSource.lineFor?_isSome_iff, State.fieldsFit, List.getD_cons_zero,
      List.getD_cons_succ, decide_eq_true_eq, join2_toNat]
    constructor
    · intro ⟨hsrc, hen, hmode, hsettle, hrep, hspacing, hline, hzero⟩
      exact ⟨⟨b.toNat, by omega⟩, rfl, ⟨hen, hmode, hsettle, hrep, hspacing⟩, hline, hzero⟩
    · intro ⟨src, hsrc, ⟨hen, hmode, hsettle, hrep, hspacing⟩, hline, hzero⟩
      rw [← hsrc]
      exact ⟨by omega, hen, hmode, hsettle, hrep, hspacing, hline, hzero⟩
  next => cases hp

theorem RawSource.parse_isSome {p : List Byte} (hp : p.length = 12) : (RawSource.parse p).isSome = true := by
  match p, hp with
  | [_, _, _, _, _, _, _, _, _, _, _, _], _ => rfl

theorem answerOf_checked_setSource (p : List Byte) (s : State) :
    (answerOf .setSource p s).Checked (Kind.setSource.lengthFits p) (s.fieldsFit .setSource p) := by
  by_cases hp : p.length = 12
  · have hlength : Kind.setSource.lengthFits p = true := by simp [Kind.lengthFits, hp]
    obtain ⟨⟨b, raw⟩, hraw⟩ := Option.isSome_iff_exists.1 (RawSource.parse_isSome hp)
    have hfields := fieldsFit_setSource s hraw
    simp only [answerOf, answerSetSource, hraw]
    split
    next h => exact Answer.checked_badValue hlength (Bool.eq_false_iff.2 fun hf => by simp [h] at hfields; simp [hf] at hfields)
    next src hsrc =>
      split
      next c line hc hline =>
        have hfields := hfields.2 ⟨src, hsrc, by simp [hc], by simp [hline]⟩
        split <;> exact Answer.checked_passed hlength hfields nofun nofun
      next h =>
        refine Answer.checked_badValue hlength (Bool.eq_false_iff.2 fun hf => ?_)
        obtain ⟨src', hsrc', hc, hline⟩ := hfields.1 hf
        cases hsrc.symm.trans hsrc'
        obtain ⟨c, hc⟩ := Option.isSome_iff_exists.1 hc
        obtain ⟨line, hline⟩ := Option.isSome_iff_exists.1 hline
        exact h c line hc hline
  · rw [answerOf_of_length (n := 12) (by simp) hp]
    exact Answer.checked_badLength (by simpa [Kind.lengthFits] using hp)

/-- The length stage of INJECT (R89). -/
theorem parseInject_isSome (p : List Byte) : (parseInject p).isSome = Kind.inject.lengthFits p := by
  match p with
  | [] => rfl
  | [_] => rfl
  | b :: n :: rest =>
    have hpairs := pairs?_eq_none_iff n.toNat rest
    rw [Bool.eq_iff_iff]
    simp only [parseInject, Kind.lengthFits, List.getD_cons_succ, List.getD_cons_zero, List.length_cons, decide_eq_true_eq]
    split
    next h =>
      rw [Option.isSome_map, Option.isSome_iff_ne_none, ne_eq, hpairs]
      omega
    next h =>
      simp
      omega

theorem State.forall_lineOf_iff (s : State) (src : SourceId) (P : LineConfig → Prop) :
    (∀ l ∈ s.lineOf src, P l) ↔ ∀ i : SerialId, i.val = src.val → P (s.serials.get i).line := by
  unfold State.lineOf serialOf?
  split
  next h =>
    have only (i : SerialId) : i.val = src.val ↔ i = ⟨src.val, h⟩ := by rw [Fin.ext_iff]
    simp [only]
  next h =>
    have none (i : SerialId) : i.val ≠ src.val := fun e => h (e ▸ i.isLt)
    simp [none]

theorem State.lineOf_eq_none_iff (s : State) (src : SourceId) : s.lineOf src = none ↔ src.val = 6 := by
  unfold State.lineOf serialOf?
  split <;> simp <;> omega

/-- The fields of INJECT, entry by entry. -/
theorem fieldsFit_inject (s : State) {b : Byte} {es : List (Byte × Byte)} {p : List Byte} (hp : parseInject p = some (b, es)) :
    s.fieldsFit .inject p = true ↔ ∃ src, index? 7 b = some src ∧ ∀ e ∈ es, EntryFits (s.lineOf src) e := by
  match p with
  | [] => cases hp
  | [_] => cases hp
  | b' :: n :: rest =>
    obtain ⟨-, h⟩ := Option.ite_none_right_eq_some.1 hp
    obtain ⟨es', hes, e⟩ := Option.map_eq_some_iff.1 h
    cases e
    have pair (j : Nat) : (b :: n :: rest).getD (2 + 2 * j) 0 = rest.getD (2 * j) 0 ∧
        (b :: n :: rest).getD (3 + 2 * j) 0 = rest.getD (2 * j + 1) 0 := by
      rw [show 2 + 2 * j = 2 * j + 1 + 1 by omega, show 3 + 2 * j = 2 * j + 1 + 1 + 1 by omega]
      exact ⟨rfl, rfl⟩
    simp only [State.fieldsFit, List.getD_cons_zero, List.getD_cons_succ, decide_eq_true_eq, index?_eq_some_iff,
      pairs?_get hes, List.forall_mem_map, List.mem_range, (pair _).1, (pair _).2, entryFits_iff, s.forall_lineOf_iff,
      s.lineOf_eq_none_iff]
    constructor
    · intro ⟨hsrc, hfit⟩
      exact ⟨⟨b.toNat, by omega⟩, rfl, hfit⟩
    · intro ⟨src, hsrc, hfit⟩
      rw [← hsrc]
      exact ⟨by omega, hfit⟩

theorem answerOf_checked_inject (p : List Byte) (s : State) :
    (answerOf .inject p s).Checked (Kind.inject.lengthFits p) (s.fieldsFit .inject p) := by
  rw [← parseInject_isSome]
  cases hp : parseInject p with
  | none =>
    rw [answerOf, answerInject, hp]
    exact Answer.checked_badLength rfl
  | some x =>
    obtain ⟨b, es⟩ := x
    have hfields := fieldsFit_inject s hp
    simp only [answerOf, answerInject, hp]
    split
    next h =>
      refine Answer.checked_badValue rfl (Bool.eq_false_iff.2 fun hf => ?_)
      obtain ⟨src, hsrc, -⟩ := hfields.1 hf
      exact absurd (h.symm.trans hsrc) nofun
    next src hsrc =>
      have hes := injectionEntries?_isSome_iff (s.lineOf src) es
      split
      next h =>
        refine Answer.checked_badValue rfl (Bool.eq_false_iff.2 fun hf => ?_)
        obtain ⟨src', hsrc', hfit⟩ := hfields.1 hf
        cases hsrc.symm.trans hsrc'
        simpa [h] using hes.2 hfit
      next xs h =>
        have hfields := hfields.2 ⟨src, hsrc, hes.1 (by simp [h])⟩
        (repeat' split) <;> exact Answer.checked_passed rfl hfields nofun nofun

/-- Check 6 of every kind but DEFINE_PATTERN. -/
theorem answerOf_checked {k : Kind} (hk : k ≠ .definePattern) (p : List Byte) (s : State) :
    (answerOf k p s).Checked (k.lengthFits p) (s.fieldsFit k p) := by
  cases k with
  | identify | readStatus | closeSession | holdNotices | releaseNotices | restart | readContacts | readWake =>
    exact answerOf_checked_empty (by simp) p s
  | readSource | cancelInject | armPattern | stopPattern | erasePattern | readTrackers | flushTrackers | clearWake =>
    exact answerOf_checked_byte (by simp) p s
  | ackEvents => exact answerOf_checked_ackEvents p s
  | setClock => exact answerOf_checked_setClock p s
  | openSession => exact answerOf_checked_openSession p s
  | readPattern => exact answerOf_checked_readPattern p s
  | setContact => exact answerOf_checked_setContact p s
  | setWake => exact answerOf_checked_setWake p s
  | setSource => exact answerOf_checked_setSource p s
  | inject => exact answerOf_checked_inject p s
  | definePattern => exact absurd rfl hk

theorem Status.code_eq_badLength {st : Status} : st.code = 0x02 ↔ st = .badLength := by
  cases st <;> decide

theorem Status.code_eq_badValue {st : Status} : st.code = 0x03 ↔ st = .badValue := by
  cases st <;> decide

/-- Settles O10: check 6 kind by kind (`answerOf_checked`), and the reply that the answer makes. -/
theorem payloadChecks : Obligations.PayloadChecks := by
  intro s i q k p hi hp hreach hk
  obtain ⟨hlength, hvalue, hpass⟩ := answerOf_checked hk p s.afterFrame
  refine ⟨fun hl => exec_refuses hi hreach hp (hlength hl) rfl, fun hl hf => exec_refuses hi hreach hp (hvalue hl hf) rfl,
    fun hl hf => ?_⟩
  obtain ⟨hnoLength, hnoValue⟩ := hpass hl hf
  cases ha : answerOf k p s.afterFrame with
  | refuse st =>
    rw [ha] at hnoLength hnoValue
    obtain ⟨t, ht, hans⟩ := exec_refuses hi hreach hp ha rfl
    exact ⟨t, _, _, _, ht, hans.replies_eq, rfl, fun e => hnoLength (by rw [Status.code_eq_badLength.1 e]),
      fun e => hnoValue (by rw [Status.code_eq_badValue.1 e])⟩
  | accept items s' =>
    obtain ⟨hlink, hpower, -⟩ := answerOf_accept_keeps ha
    obtain ⟨t, ht, hans⟩ := exec_accepts hi hreach hp ha hpower rfl rfl
    exact ⟨t, _, _, _, ht, by rw [hans.replies_eq, hlink]; rfl, rfl, by decide, by decide⟩

end Sys2Proof.Machine
end

section
/-! PROOFS. The requests of chapters 9 and 10 and of the event queue: what each block answers, and the effect that the reply leaves
behind. -/
namespace Sys2Proof.Machine

/-- An accepted request, with the state `e` after its own effect and its reply `r`: no answer touches host power. -/
theorem exec_accepted {s s' e : State} {i : Instr} {q : Byte} {k : Kind} {p items : List Byte} {r : Reply}
    (hf : i.frame? = some (q, k.code, p)) (h : s.Reaches q k) (hp : p.length ≤ 248)
    (ha : answerOf k p s.afterFrame = .accept items s') (he : e = s')
    (hr : r = { seq := q, kind := k.code, payload := 0x00 :: items, restart := decide (k = .restart) }) :
    ∃ t, exec i s = .next t ∧ e.Answered t r := by
  obtain ⟨-, hpower, -⟩ := answerOf_accept_keeps ha
  exact exec_accepts hf h hp ha hpower he hr

/-! ### Status, clock, restart (chapter 10) -/

theorem State.attn_low_iff (s : State) :
    s.attn = .low ↔ s.session.opened = none ∧ s.queue.records ≠ [] ∧ s.resetHeld = false := by
  unfold State.attn
  split <;> simp [*]

theorem Record.isSent_eq (r : Record) : r.isSent = decide (r.mark = .sent) := by
  unfold Record.isSent
  cases r.mark <;> rfl

theorem Record.not_isSent_eq (r : Record) : (!r.isSent) = decide (r.mark = .waiting) := by
  unfold Record.isSent
  cases r.mark <;> rfl

theorem EventQueue.sentCount_eq (q : EventQueue) : q.sentCount = q.records.countP fun r => decide (r.mark = .sent) := by
  simp only [EventQueue.sentCount, ← Record.isSent_eq]

theorem EventQueue.waitingCount_eq (q : EventQueue) :
    q.waitingCount = q.records.countP fun r => decide (r.mark = .waiting) := by
  simp only [EventQueue.waitingCount, Record.not_isSent_eq]

/-- Settles O14: ATTN is as its definition has it, and READ_STATUS gives its fields in the order of section 11.2. -/
theorem statusAndAttn : Obligations.StatusAndAttn := by
  refine ⟨State.attn_low_iff, fun s q hreach => exec_accepted (k := .readStatus) rfl hreach (by simp) rfl rfl ?_⟩
  rw [show s.afterFrame.statusBytes = s.statusBytes from rfl, State.statusBytes, EventQueue.sentCount_eq,
    EventQueue.waitingCount_eq]
  cases h : s.session.opened <;>
    simp [SessionBlock.isOpen, h, optField, yesNo, EventQueue.ordinaryCount, EventQueue.lostPresent, trackersInUse, Kind.code]

/-- Settles O15: the block's answer is the reading before the load. -/
theorem setClock : Obligations.SetClock := fun _ _ _ _ _ _ hreach =>
  exec_accepted (k := .setClock) rfl hreach (by simp) rfl rfl rfl

/-- Settles O16: the block accepts with no items, and the reply of an accepted RESTART carries the mark. -/
theorem restartRequest : Obligations.RestartRequest := fun _ _ hreach =>
  exec_accepted (k := .restart) rfl hreach (by simp) rfl rfl rfl

/-! ### Sessions (chapter 9) -/

/-- OPEN_SESSION with fields in range, at the session block (R159). -/
theorem answerOf_openSession {s : State} {w t1 t0 : Byte} (hw : 1 ≤ w.toNat ∧ w.toNat ≤ 8)
    (ht : 20 ≤ (t1 ++ t0).toNat ∧ (t1 ++ t0).toNat ≤ 5000) :
    answerOf .openSession [w, t1, t0] s =
      .accept [nextSession s.session.number, w, t1, t0, (s.closeSession .reopened).session.lastClose.code,
          byteOf s.queue.records.length]
        (State.autoClear { s.closeSession .reopened with session := { (s.closeSession .reopened).session with
          number := nextSession s.session.number, opened := some (freshSession w.toNat (t1 ++ t0).toNat) } }) := by
  have time : nat2 (join2 t1 t0).toNat = [t1, t0] := by rw [nat2, BitVec.ofNat_toNat, BitVec.setWidth_eq, bytes2_join2]
  have range : ¬(w.toNat < 1 ∨ 8 < w.toNat ∨ (join2 t1 t0).toNat < 20 ∨ 5000 < (join2 t1 t0).toNat) := by
    unfold join2
    omega
  simp only [answerOf, answerOpenSession, if_neg range, time]
  rfl

/-- Settles O20: the close of a session that is open (`State.closeSession_spec`), and the opening of the next. -/
theorem openSessionRequest : Obligations.OpenSessionRequest := by
  intro s q w t1 t0 hreach hw hw' ht ht'
  refine exec_accepted (k := .openSession) rfl hreach (by simp) (answerOf_openSession ⟨hw, hw'⟩ ⟨ht, ht'⟩) ?_ ?_
  · rcases s.afterFrame.closeSession_spec .reopened with ⟨h, e⟩ | ⟨h, e⟩ <;> rw [e] <;> rw [s.afterFrame_session] at h
    · rw [if_pos h, if_pos h]
      rfl
    · rw [if_neg h, if_neg h]
      rfl
  · rcases s.afterFrame.closeSession_spec .reopened with ⟨h, e⟩ | ⟨h, e⟩ <;> rw [e] <;> rw [s.afterFrame_session] at h
    · rw [if_pos h]
      rfl
    · rw [if_neg h]
      rfl

theorem EventQueue.sentCount_ne_zero_iff (q : EventQueue) : q.sentCount ≠ 0 ↔ ∃ r ∈ q.records, r.mark = .sent := by
  rw [← Nat.pos_iff_ne_zero, EventQueue.sentCount_eq, List.countP_pos_iff]
  simp

/-- Settles O21: the close (`State.closeSession_spec`), and each request on the flow in either flow. -/
theorem sessionRequests : Obligations.SessionRequests := by
  intro s q o ho
  refine ⟨fun hreach => ?_, fun hreach => ?_, fun hreach => ?_⟩
  · refine exec_accepted (k := .closeSession) rfl hreach (by simp) rfl ?_ ?_
    · rcases s.afterFrame.closeSession_spec .requested with ⟨h, e⟩ | ⟨-, e⟩
      · exact absurd (h.symm.trans ho) nofun
      · rw [e]
        rfl
    · rw [← EventQueue.sentCount_eq]
      rfl
  · have flow : s.afterFrame.flow = o.flow := by simp [State.flow, ho]
    cases hflow : o.flow with
    | held =>
      refine exec_accepted (k := .holdNotices) (items := [Flow.held.code]) (s' := s.afterFrame) rfl hreach (by simp) ?_ ?_ rfl
      · simp only [answerOf, answerHoldNotices, flow, hflow]
      · rw [if_pos rfl, ← ho]
        rfl
    | flowing =>
      refine exec_accepted (k := .holdNotices) (items := [Flow.flowing.code])
        (s' := s.afterFrame.updateSession fun o => { o with flow := .held, timer := none, resend := [] }) rfl hreach
        (by simp) ?_ ?_ rfl
      · simp only [answerOf, answerHoldNotices, flow, hflow]
      · simp [State.updateSession, ho]
  · have flow : s.afterFrame.flow = o.flow := by simp [State.flow, ho]
    cases hflow : o.flow with
    | flowing =>
      refine exec_accepted (k := .releaseNotices) (items := [Flow.flowing.code]) (s' := s.afterFrame) rfl hreach (by simp) ?_
        ?_ rfl
      · simp only [answerOf, answerReleaseNotices, flow, hflow]
      · rw [if_pos rfl, ← ho]
        rfl
    | held =>
      refine exec_accepted (k := .releaseNotices) (items := [Flow.held.code])
        (s' := s.afterFrame.updateSession fun o =>
          { o with flow := .flowing, timer := if s.queue.sentCount ≠ 0 then some o.timeout else none }) rfl hreach
        (by simp) ?_ ?_ rfl
      · simp only [answerOf, answerReleaseNotices, flow, hflow]
        rfl
      · simp only [State.updateSession, s.afterFrame_session, ho, Option.map_some, s.queue.sentCount_ne_zero_iff]
        rfl

/-! ### ACK_EVENTS (R113 to R116, R108, R170) -/

/-- The report flags of the serial sources once the records `gone` have left (R115). -/
def State.serialsCleared (s : State) (gone : List Record) : Table Serial 6 :=
  Table.tabulate fun i =>
    if gone.any (Record.isLineErrorOf i) = true then { s.serials.get i with errorFlag := false } else s.serials.get i

/-- The short-report flags once the records `gone` have left (R115). -/
def State.shortFlagsCleared (s : State) (gone : List Record) : Table Bool 7 :=
  Table.tabulate fun src => if gone.any (Record.isShortOf src) = true then false else s.shortFlags.get src

theorem State.recordLeaves_serials (s : State) (r : Record) : (s.recordLeaves r).serials = s.serialsCleared [r] := by
  apply Table.ext_get
  intro i
  simp only [State.recordLeaves, State.serialsCleared, Record.isLineErrorOf, Table.get_tabulate, List.any_cons, List.any_nil,
    Bool.or_false]
  cases r.body <;> simp [Table.get_modify]

theorem State.recordLeaves_shortFlags (s : State) (r : Record) : (s.recordLeaves r).shortFlags = s.shortFlagsCleared [r] := by
  apply Table.ext_get
  intro src
  simp only [State.recordLeaves, State.shortFlagsCleared, Record.isShortOf, Table.get_tabulate, List.any_cons, List.any_nil,
    Bool.or_false]
  cases r.body <;> simp [Table.get_set]

/-- Records leave the flags of the sources they report on clear, and nothing else changes. -/
theorem State.foldl_recordLeaves_eq (gone : List Record) (s : State) :
    gone.foldl State.recordLeaves s =
      { s with serials := s.serialsCleared gone, shortFlags := s.shortFlagsCleared gone } := by
  induction gone generalizing s with
  | nil =>
    have hserials : s.serialsCleared [] = s.serials := Table.ext_get fun i => by simp [State.serialsCleared]
    have hflags : s.shortFlagsCleared [] = s.shortFlags := Table.ext_get fun i => by simp [State.shortFlagsCleared]
    rw [hserials, hflags]
    rfl
  | cons r gone ih =>
    have frame : s.recordLeaves r =
        { s with serials := (s.recordLeaves r).serials, shortFlags := (s.recordLeaves r).shortFlags } := by
      unfold State.recordLeaves
      split <;> rfl
    have hserials : (s.recordLeaves r).serialsCleared gone = s.serialsCleared (r :: gone) := by
      apply Table.ext_get
      intro i
      simp only [State.serialsCleared, State.recordLeaves_serials, Table.get_tabulate, List.any_cons, List.any_nil]
      by_cases hr : r.isLineErrorOf i = true <;> by_cases hg : gone.any (Record.isLineErrorOf i) = true <;> simp [hr, hg]
    have hflags : (s.recordLeaves r).shortFlagsCleared gone = s.shortFlagsCleared (r :: gone) := by
      apply Table.ext_get
      intro src
      simp only [State.shortFlagsCleared, State.recordLeaves_shortFlags, Table.get_tabulate, List.any_cons, List.any_nil]
      by_cases hr : r.isShortOf src = true <;> by_cases hg : gone.any (Record.isShortOf src) = true <;> simp [hr, hg]
    rw [List.foldl_cons, ih, hserials, hflags, frame]

theorem ackSplit_eq_some {n : Half} {before rest : List Record} {r : Record} (hr : r.number = n) (hs : r.isSent = true)
    (hbefore : ∀ x ∈ before, x.number ≠ n) : ackSplit n (before ++ r :: rest) = some (before ++ [r], rest) := by
  induction before with
  | nil => simp [ackSplit, hr, hs]
  | cons x before ih =>
    rw [List.forall_mem_cons] at hbefore
    simp [ackSplit, hbefore.1, ih hbefore.2]

theorem ackSplit_eq_none {n : Half} {rs : List Record} (h : ∀ x ∈ rs, x.number = n → x.isSent = false) :
    ackSplit n rs = none := by
  induction rs with
  | nil => rfl
  | cons x rs ih =>
    rw [List.forall_mem_cons] at h
    by_cases hx : x.number = n
    · simp [ackSplit, hx, h.1 hx]
    · simp [ackSplit, hx, ih h.2]

theorem EventQueue.lostDue_iff (q : EventQueue) :
    q.lostDue = true ↔ q.lost ≠ 0 ∧ (∀ x ∈ q.records, x.isLost = false) ∧ q.records.countP (fun x => !x.isLost) < 63 := by
  rw [EventQueue.lostDue, Bool.and_eq_true, Bool.and_eq_true, decide_eq_true_iff, decide_eq_true_iff]
  simp only [EventQueue.lostPresent, Bool.not_eq_true', List.any_eq_false, Bool.not_eq_true, and_assoc]
  rfl

/-- The queue once an acknowledgement has left `rest` in it (R108). -/
def EventQueue.acknowledged (q : EventQueue) (rest : List Record) (clock : Word) : EventQueue :=
  ({ q with records := rest } : EventQueue).judgeLost clock

/-- A LOST record that enters is WAITING. -/
theorem EventQueue.acknowledged_sentCount (q : EventQueue) (rest : List Record) (clock : Word) :
    (q.acknowledged rest clock).sentCount = ({ q with records := rest } : EventQueue).sentCount := by
  unfold EventQueue.acknowledged EventQueue.judgeLost
  split
  · simp [EventQueue.enter, EventQueue.sentCount, Record.isSent]
  · rfl

/-- The session block after an acknowledgement (R170). -/
def SessionBlock.acknowledged (b : SessionBlock) (sentLeft : Nat) : SessionBlock :=
  { b with opened := b.opened.map fun o => o.acknowledged sentLeft }

/-- ACK_EVENTS at the event queue, where it names a SENT record (R113). -/
theorem answerOf_ackEvents {s : State} {hi lo : Byte} {gone rest : List Record}
    (h : ackSplit (join2 hi lo) s.queue.records = some (gone, rest)) :
    answerOf .ackEvents [hi, lo] s =
      .accept ([byteOf gone.length, byteOf (s.queue.acknowledged rest s.clock).records.length] ++
          optField bytes2 (if ({ s.queue with records := rest } : EventQueue).lostDue = true then some s.queue.nextNumber
            else none))
        { s with
          serials := s.serialsCleared gone
          shortFlags := s.shortFlagsCleared gone
          queue := s.queue.acknowledged rest s.clock
          session := s.session.acknowledged (s.queue.acknowledged rest s.clock).sentCount } := by
  simp only [answerOf, answerAckEvents, h, State.foldl_recordLeaves_eq]
  rfl

/-- Settles O24: the records that leave (`ackSplit_eq_some`), the flags they clear (`State.foldl_recordLeaves_eq`), and the LOST
record (`EventQueue.lostDue_iff`). -/
theorem ackEvents : Obligations.AckEvents := by
  intro s q hi lo hreach
  refine ⟨fun before r rest hrecords hr hbefore hsent => ?_, fun h => ?_⟩
  · intro gone lostEnters left
    have split : ackSplit (join2 hi lo) s.queue.records = some (gone, rest) := by
      rw [hrecords]
      exact ackSplit_eq_some hr (by rw [r.isSent_eq, hsent]; rfl) hbefore
    have due : ({ s.queue with records := rest } : EventQueue).lostDue = true ↔ lostEnters := EventQueue.lostDue_iff _
    have sentLeft : ({ s.queue with records := rest } : EventQueue).sentCount ≠ 0 ↔ ∃ x ∈ rest, x.mark = .sent :=
      EventQueue.sentCount_ne_zero_iff _
    have queue : s.queue.acknowledged rest s.clock =
        { records := left
          nextNumber := if lostEnters then s.queue.nextNumber + 1 else s.queue.nextNumber
          lost := if lostEnters then 0 else s.queue.lost } := by
      unfold EventQueue.acknowledged EventQueue.judgeLost
      by_cases hlost : lostEnters
      · simp only [if_pos (due.2 hlost), left, if_pos hlost]
        rfl
      · simp only [if_neg (mt due.1 hlost), left, if_neg hlost]
    refine exec_accepted (k := .ackEvents) rfl hreach (by simp) (answerOf_ackEvents (s := s.afterFrame) split) ?_ ?_
    · simp only [State.afterFrame_queue, State.afterFrame_clock, EventQueue.acknowledged_sentCount, SessionBlock.acknowledged,
        OpenSession.acknowledged, sentLeft, State.afterFrame_session]
      rw [queue]
      rfl
    · simp only [State.afterFrame_queue, State.afterFrame_clock, due]
      rw [queue]
      by_cases hlost : lostEnters
      · simp only [if_pos hlost]
        rfl
      · simp only [if_neg hlost]
        rfl
  · refine exec_refuses (k := .ackEvents) (st := .badAck) rfl hreach (by simp) ?_ rfl
    have none : ackSplit (join2 hi lo) s.queue.records = none :=
      ackSplit_eq_none fun x hx hn => by rw [x.isSent_eq, h x hx hn]; rfl
    simp only [answerOf, answerAckEvents, State.afterFrame_queue, none]

end Sys2Proof.Machine
end

section
/-! PROOFS. The requests on patterns, trackers and wake outputs (sections 1.5, 2.6 and 7.2). -/
namespace Sys2Proof.Machine

/-! ### DEFINE_PATTERN: a definition written and read back (section 11.4) -/

def Policy.code : Policy → Byte
  | .restart => 0x00
  | .holdoff _ => 0x01

def Policy.time : Policy → Half
  | .restart => 0
  | .holdoff t => BitVec.ofNat 16 t

theorem Policy.bytes_eq (p : Policy) : p.bytes = p.code :: bytes2 p.time := by
  cases p <;> rfl

/-- A definition's fields as the length stage splits them. -/
def Definition.raw (d : Definition) (p : PatternId) : RawDefinition where
  index := indexByte p
  label := d.label
  sources := d.sources.setWidth 8
  gapLimit := BitVec.ofNat 16 d.gapLimit
  spanFlag := yesNo d.spanLimit.isSome
  span := d.spanLimit.map (BitVec.ofNat 32)
  policy := d.policy.code
  holdoff := d.policy.time
  condition := d.condition.code
  consume := yesNo d.consume
  oneShot := yesNo d.oneShot
  report := yesNo d.report
  capture := yesNo d.capture
  route := d.route.setWidth 8
  skipFlag := yesNo d.skip.isSome
  skip := d.skip.map fun st => (st.value, st.mask)
  steps := d.steps.map fun st => (st.value, st.mask)

theorem Definition.Ok.raw_reads {d : Definition} (h : d.Ok) (p : PatternId) : (d.raw p).Reads d := by
  obtain ⟨-, -, hsome, hgap, hgap', hspan, hpolicy, hreports⟩ := h
  have narrow {n m : Nat} (hn : n ≤ 600000) (hm : 2 ^ 20 ≤ 2 ^ m) : (BitVec.ofNat m n).toNat = n := by
    rw [BitVec.toNat_ofNat, Nat.mod_eq_of_lt (by omega)]
  have half {n : Nat} (hn : n ≤ 60000) : (BitVec.ofNat 16 n).toNat = n := by
    rw [BitVec.toNat_ofNat, Nat.mod_eq_of_lt (by omega)]
  exact
    { label := rfl
      sources := sourceSet?_setWidth _
      spanFlag := by cases hs : d.spanLimit <;> simp [Definition.raw, hs, presence?, yesNo]
      skipFlag := by cases hs : d.skip <;> simp [Definition.raw, hs, presence?, yesNo]
      gapLimit := (gapLimit?_eq_some_iff _ _).2 ⟨⟨hgap, hgap'⟩, half hgap'⟩
      spanLimit := by
        refine (spanLimit?_eq_some_iff _ _).2 ⟨hspan, ?_⟩
        cases hs : d.spanLimit with
        | none => simp [Definition.raw, hs]
        | some n =>
          simp only [Definition.raw, hs, Option.map_some, narrow (m := 32) (hspan n hs).2 (by decide)]
      policy := by
        rw [policy?_eq_some_iff]
        cases hp : d.policy with
        | restart => exact .inl ⟨by simp [Definition.raw, hp, Policy.code], by simp [Definition.raw, hp, Policy.time], rfl⟩
        | holdoff t =>
          have range : 1 ≤ t ∧ t ≤ 60000 := by simpa [hp, Policy.inRange] using hpolicy
          refine .inr ⟨by simp [Definition.raw, hp, Policy.code], ?_⟩
          simp only [Definition.raw, hp, Policy.time, half range.2]
          exact ⟨range, trivial⟩
      condition := Condition.ofCode?_code _
      consume := yesNo?_yesNo _
      oneShot := yesNo?_yesNo _
      report := yesNo?_yesNo _
      capture := yesNo?_yesNo _
      route := outputSet?_setWidth _
      steps := (List.map_map ..).trans (List.map_id _)
      skip := by simp [Definition.raw, Function.comp_def]
      someSource := hsome
      captureReports := hreports }

/-- The steps of a definition, read back from its bytes. -/
theorem stepsField?_bytes {steps : List PatternStep} (hlo : 1 ≤ steps.length) (hhi : steps.length ≤ 12) :
    stepsField? (byteOf steps.length :: steps.flatMap PatternStep.bytes) = some (steps.map fun st => (st.value, st.mask)) := by
  have count : (byteOf steps.length).toNat = steps.length := byteOf_toNat (by omega)
  have pairs := pairs?_flatMap (steps.map fun st => (st.value, st.mask))
  rw [List.length_map, List.flatMap_map] at pairs
  rw [stepsField?, count, if_pos ⟨hlo, hhi⟩]
  exact pairs

theorem spanField?_optField (x : Option Nat) (rest : List Byte) :
    spanField? (yesNo x.isSome) ((x.map nat4).getD [] ++ rest) = some (x.map (BitVec.ofNat 32), rest) := by
  cases x with
  | none => rfl
  | some n =>
    have back := join4_bytes4 (BitVec.ofNat 32 n)
    simp only [spanField?, yesNo, nat4, bytes4, Option.isSome_some, Option.map_some, Option.getD_some, List.cons_append,
      List.nil_append, back]
    rfl

theorem skipField?_optField (x : Option PatternStep) (rest : List Byte) :
    skipField? (yesNo x.isSome) ((x.map PatternStep.bytes).getD [] ++ rest) =
      some (x.map fun st => (st.value, st.mask), rest) := by
  cases x <;> rfl

theorem optField_eq {α : Type} (enc : α → List Byte) (x : Option α) :
    optField enc x = yesNo x.isSome :: (x.map enc).getD [] := by
  cases x <;> rfl

/-- The length stage reads the definition that was written. -/
theorem Definition.Ok.parse_bytes {d : Definition} (h : d.Ok) (p : PatternId) :
    RawDefinition.parse (indexByte p :: d.bytes) = some (d.raw p) := by
  obtain ⟨hlo, hhi, -⟩ := h
  have label := join2_bytes2 d.label
  have gap := join2_bytes2 (BitVec.ofNat 16 d.gapLimit)
  have time := join2_bytes2 d.policy.time
  simp only [Definition.bytes, RawDefinition.parse, optField_eq, Policy.bytes_eq, bytes2, nat2, List.cons_append,
    List.nil_append, List.append_assoc, spanField?_optField, skipField?_optField, stepsField?_bytes hlo hhi, label, gap, time]
  rfl

/-- The length of a list of byte pairs. -/
theorem length_flatMap_pairs {α : Type} {f : α → List Byte} (hf : ∀ a, (f a).length = 2) (l : List α) :
    (l.flatMap f).length = 2 * l.length := by
  induction l with
  | nil => rfl
  | cons a l ih =>
    rw [List.flatMap_cons, List.length_append, hf, ih, List.length_cons]
    omega

theorem Definition.Ok.bytes_length_le {d : Definition} (h : d.Ok) : d.bytes.length ≤ 47 := by
  obtain ⟨-, hhi, -⟩ := h
  have steps : (d.steps.flatMap fun st => [st.value, st.mask]).length = 2 * d.steps.length :=
    length_flatMap_pairs (fun _ => rfl) d.steps
  have head := d.headBytes_length
  rw [Definition.bytes_eq_headBytes_append, List.length_append, steps, head]
  split <;> split <;> omega

/-- Settles O35: the definition as written is read back (`Definition.Ok.parse_bytes`, `Definition.Ok.raw_reads`). -/
theorem definePattern : Obligations.DefinePattern := by
  intro s q p d hreach hd old
  have hindex : index? 32 (d.raw p).index = some p := index?_indexByte (by decide) p
  have hlen : (indexByte p :: d.bytes).length ≤ 248 := by
    have := hd.bytes_length_le
    rw [List.length_cons]
    omega
  refine ⟨fun hidle => ?_, fun ⟨e, he, harmed⟩ => ?_⟩
  · refine exec_accepted (k := .definePattern) rfl hreach hlen
      (answerOf_definePattern_accepts (s := s.afterFrame) (hd.parse_bytes p) hindex (hd.raw_reads p) hidle) rfl ?_
    change _ = Reply.mk q 0x20 (0x00 :: entryStateCode old :: bytes2 (entryHits old)) false
    cases old <;> rfl
  · refine exec_refuses (k := .definePattern) (st := .busy) rfl hreach hlen ?_ rfl
    have hentry : s.afterFrame.patterns.get p = some e := he
    simp only [answerOf, answerDefinePattern, hd.parse_bytes p, hindex, ((d.raw p).check_eq_some_iff d).2 (hd.raw_reads p),
      hentry, harmed]

/-! ### STOP_PATTERN, ERASE_PATTERN and READ_PATTERN (R20 to R22) -/

/-- Settles O38: the answer in each state of the entry. -/
theorem stopAndErase : Obligations.StopAndErase := by
  intro s q p
  have index := index?_indexByte (show 32 ≤ 256 by decide) p
  refine ⟨fun hreach => ⟨fun hempty => ?_, fun e he hphase => ?_, fun e he hphase => ?_⟩,
    fun hreach => ⟨fun hempty => ?_, fun e he hphase => ?_, fun e he hphase => ?_⟩⟩
  · refine exec_refuses (k := .stopPattern) (st := .wrongState) rfl hreach (by simp) ?_ rfl
    simp only [answerOf, answerStopPattern, index, s.afterFrame_patterns, hempty]
  · refine exec_accepted (k := .stopPattern) (items := [0x01]) (s' := s.afterFrame) rfl hreach (by simp) ?_ rfl rfl
    simp only [answerOf, answerStopPattern, index, s.afterFrame_patterns, he, hphase, entryStateCode]
  · refine exec_accepted (k := .stopPattern) (items := [entryStateCode (some e)])
      (s' := ((s.afterFrame.setEntry p (some { e with phase := .stopped })).releasePattern p).clearPatternHoldoffs p)
      rfl hreach (by simp) ?_ ?_ rfl
    · simp only [answerOf, answerStopPattern, index, s.afterFrame_patterns, he]
      cases h : e.phase with
      | stopped => exact absurd h hphase
      | armed => rfl
      | spent => rfl
    · simp only [decide_not]
      rfl
  · exact exec_accepted (k := .erasePattern) (items := [0x00, 0, 0]) (s' := s.afterFrame) rfl hreach (by simp)
      (by simp only [answerOf, answerErasePattern, index, s.afterFrame_patterns, hempty]; rfl) rfl rfl
  · refine exec_refuses (k := .erasePattern) (st := .busy) rfl hreach (by simp) ?_ rfl
    simp only [answerOf, answerErasePattern, index, s.afterFrame_patterns, he, hphase]
  · refine exec_accepted (k := .erasePattern) (items := entryStateCode (some e) :: bytes2 e.hits)
      (s' := (s.afterFrame.setEntry p none).clearPatternHoldoffs p) rfl hreach (by simp) ?_ rfl rfl
    simp only [answerOf, answerErasePattern, index, s.afterFrame_patterns, he]
    cases h : e.phase with
    | armed => exact absurd h hphase
    | stopped => rfl
    | spent => rfl

/-- Settles O39: an EMPTY entry, and one that holds a definition (`answerOf_readPattern_of_entry`). -/
theorem readPattern : Obligations.ReadPattern := by
  intro s q p clear hreach
  refine ⟨fun hempty => ?_, fun e he => ?_⟩
  · refine exec_accepted (k := .readPattern) (items := [0x00]) (s' := s.afterFrame) rfl hreach (by simp) ?_ rfl rfl
    simp only [answerOf, answerReadPattern, index?_indexByte (show 32 ≤ 256 by decide) p, yesNo?_yesNo,
      s.afterFrame_patterns, hempty, entryStateCode]
  · refine exec_accepted (k := .readPattern) rfl hreach (by simp)
      (answerOf_readPattern_of_entry (s := s.afterFrame) he clear) rfl ?_
    have effective : (match e.definition.condition, s.power.qualified with
        | .hostOn, .absent => 0
        | .hostOff, .present => 0
        | _, _ => 1) = yesNo (s.afterFrame.entryEffective e) := by
      rw [State.entryEffective, s.afterFrame_power]
      cases e.definition.condition <;> cases s.power.qualified <;> rfl
    rw [← effective]
    rfl

/-! ### READ_TRACKERS and FLUSH_TRACKERS (R51, R52) -/

/-- Settles O46: the reported trackers byte by byte, and the counts of what a flush releases. -/
theorem trackerRequests : Obligations.TrackerRequests := by
  intro s q
  refine ⟨fun first hreach => ?_, fun set hreach => ?_⟩
  · intro used
    have answer : answerOf .readTrackers [indexByte first] s.afterFrame =
        .accept ([byteOf (trackersInUse s.trackers), byteOf (used.take 6).length] ++ (used.take 6).flatMap s.trackerBytes ++
          optField (fun i => [indexByte i]) (used.drop 6).head?) s.afterFrame := by
      simp only [answerOf, answerReadTrackers, index?_indexByte (show 24 ≤ 256 by decide) first]
      rfl
    refine exec_accepted (k := .readTrackers) rfl hreach (by simp) answer rfl ?_
    have tracker : (fun i => match s.trackers.get i with
        | some x =>
          [indexByte i, indexByte x.pattern, indexByte x.source, byteOf x.next] ++ nat2 x.gap ++
            (match x.span with
              | some n => 1 :: nat4 n
              | none => [0]) ++ bytes4 x.start ++
            (match x.captured with
              | some vs => byteOf vs.length :: vs
              | none => [0])
        | none => []) = s.trackerBytes := by
      funext i
      unfold State.trackerBytes
      cases s.trackers.get i with
      | none => rfl
      | some x =>
        obtain ⟨pattern, source, nextStep, gap, span, start, captured⟩ := x
        cases span <;> cases captured <;> rfl
    have next : (match used.drop 6 with
        | i :: _ => [1, indexByte i]
        | [] => [0]) = optField (fun i => [indexByte i]) (used.drop 6).head? := by
      cases used.drop 6 <;> rfl
    rw [← next, ← tracker]
    rfl
  · refine exec_accepted (k := .flushTrackers) (items := [byteOf (s.trackersOn set), byteOf (s.holdoffsOn set)])
      (s' := (s.afterFrame.releaseTrackers fun t => set.getLsbD t.source.val).clearHoldoffsOn set) rfl hreach (by simp) ?_
      rfl ?_
    · simp only [answerOf, answerFlushTrackers, sourceSet?_setWidth]
      rfl
    · have trackers : (s.trackers.rows.countP fun slot => slot.any fun x => set.getLsbD x.source.val) = s.trackersOn set := by
        refine List.countP_congr fun slot _ => ?_
        cases slot <;> rfl
      have holdoffs : ((List.finRange 32).map fun p => (List.finRange 7).countP fun src =>
          set.getLsbD src.val && ((s.holdoffs.get p).get src).isSome).sum = s.holdoffsOn set := by
        rw [State.holdoffsOn, Table.rows_eq, List.map_map]
        rfl
      rw [trackers, holdoffs]
      rfl

/-! ### SET_WAKE, CLEAR_WAKE and READ_WAKE (R127 to R131) -/

theorem wakeConfig?_bytes (cfg : WakeConfig) :
    wakeConfig? (yesNo cfg.enable) cfg.mode.code (wakePolarityCode cfg.polarity) cfg.width cfg.gate.code (yesNo cfg.autoClear) =
      if cfg.width = 0 then none else some cfg := by
  simp [wakeConfig?]

/-- The outputs once those of a set are cleared (R129). -/
def State.wakesCleared (s : State) (set : BitVec 4) : Table Wake 4 :=
  Table.tabulate fun w => if set.getLsbD w.val = true then (s.wakes.get w).cleared else s.wakes.get w

/-- Settles O48: the configuration that was written is the one read (`wakeConfig?_bytes`). -/
theorem setAndClearWake : Obligations.SetAndClearWake := by
  intro s q
  refine ⟨fun w cfg hreach => ⟨fun hwidth => ?_, fun hwidth => ?_⟩, fun set hreach => ?_⟩
  · refine exec_accepted (k := .setWake) (p := indexByte w :: cfg.bytes)
      (items := (s.wakes.get w).config.bytes ++ [yesNo (s.wakes.get w).latch,
        yesNo (Wake.asserted { s.wakes.get w with config := cfg, pulse := none } s.power.qualified)])
      (s' := { s.afterFrame with wakes := s.wakes.set w { s.wakes.get w with config := cfg, pulse := none } })
      rfl hreach (by simp [WakeConfig.bytes]) ?_ rfl ?_
    · simp only [answerOf, answerSetWake, WakeConfig.bytes, index?_indexByte (show 4 ≤ 256 by decide) w, wakeConfig?_bytes,
        if_neg hwidth]
      rfl
    · have asserted : yesNo (Wake.asserted { s.wakes.get w with config := cfg, pulse := none } s.power.qualified) =
          if (s.wakes.get w).latch = true ∧ cfg.enable = true ∧ (cfg.gate = .any ∨ s.power.qualified = .absent) ∧
            cfg.mode = .level then 1 else 0 := by
        unfold yesNo
        congr 1
        rw [Wake.asserted]
        cases hm : cfg.mode <;> simp [WakeConfig.gateOpen_iff, and_assoc]
      rw [asserted]
      rfl
  · refine exec_refuses (k := .setWake) (p := indexByte w :: cfg.bytes) (st := .badValue) rfl hreach
      (by simp [WakeConfig.bytes]) ?_ rfl
    simp only [answerOf, answerSetWake, WakeConfig.bytes, index?_indexByte (show 4 ≤ 256 by decide) w, wakeConfig?_bytes,
      if_pos hwidth]
  · have left : (outputSetByte fun w => ((s.wakesCleared set).get w).latch) =
        outputSetByte fun w => !set.getLsbD w.val && (s.wakes.get w).latch := by
      congr 1
      funext w
      rw [State.wakesCleared, Table.get_tabulate]
      cases set.getLsbD w.val <;> rfl
    refine exec_accepted (k := .clearWake) (s' := { s.afterFrame with wakes := s.wakesCleared set })
      (items := [outputSetByte fun w => set.getLsbD w.val && (s.wakes.get w).latch,
        outputSetByte fun w => !set.getLsbD w.val && (s.wakes.get w).latch]) rfl hreach (by simp) ?_ rfl rfl
    simp only [answerOf, answerClearWake, outputSet?_setWidth]
    rw [← left]
    rfl

/-- An output's three last bytes in a READ_WAKE reply, by R123, R125 and R126. -/
theorem Wake.asserted_eq (x : Wake) (p : HostPower) :
    x.asserted p = (x.latch && x.config.enable && decide (x.config.gate = .any ∨ p = .absent) &&
      (decide (x.config.mode = .level) || x.pulse.isSome)) := by
  unfold Wake.asserted WakeConfig.gateOpen
  cases x.config.gate <;> cases x.config.mode <;> simp

theorem Polarity.drive_code (pol : Polarity) (b : Bool) :
    levelCode (pol.drive b) = if b = decide (pol = .activeHigh) then 1 else 0 := by
  cases pol <;> cases b <;> rfl

/-- Settles O49: one output at a time (`Wake.asserted_eq`, `Polarity.drive_code`). -/
theorem readWake : Obligations.ReadWake := by
  intro s q hreach
  refine exec_accepted (k := .readWake) (s' := s.afterFrame) (items :=
    (List.finRange 4).flatMap s.wakeBytes ++ [s.power.qualified.code, levelCode s.pins.hostpwr] ++
      optField (fun n => [byteOf n]) s.power.timer) rfl hreach (by simp) rfl rfl ?_
  have gate (w : OutputId) : (s.wakes.get w).config.gateOpen s.power.qualified =
      decide ((s.wakes.get w).config.gate = .any ∨ s.power.qualified = .absent) := by
    rw [Bool.eq_iff_iff, WakeConfig.gateOpen_iff, decide_eq_true_iff]
  have output : s.wakeBytes = fun w =>
      let x := s.wakes.get w
      let gateOpen : Bool := x.config.gate = .any ∨ s.power.qualified = .absent
      let asserted : Bool := x.latch && x.config.enable && gateOpen && (decide (x.config.mode = .level) || x.pulse.isSome)
      let pin : Byte := if asserted = decide (x.config.polarity = .activeHigh) then 1 else 0
      x.config.bytes ++ [yesNo x.latch] ++
        (match x.pulse with
          | some n => [1, byteOf n]
          | none => [0]) ++ [yesNo gateOpen, yesNo asserted, pin] := by
    funext w
    simp only [State.wakeBytes, State.wakePin, Polarity.drive_code, ← gate, Wake.asserted_eq]
    cases (s.wakes.get w).pulse <;> rfl
  have timer : optField (fun n => [byteOf n]) s.power.timer = match s.power.timer with
      | some n => [1, byteOf n]
      | none => [0] := by cases s.power.timer <;> rfl
  rw [output, timer]
  rfl

end Sys2Proof.Machine
end

section
/-! PROOFS. The requests on sources, injection queues and contacts (sections 3.4, 3.6, 4.5, 4.6, 5.2 and 5.5). -/
namespace Sys2Proof.Machine

/-! ### SET_SOURCE (R62 to R65, R82, R99) -/

/-- A source configuration's fields as SET_SOURCE splits them; SC's four line bytes are 0 (R81). -/
def SourceConfig.raw (c : SourceConfig) (line : Option LineConfig) : RawSource where
  enable := yesNo c.enable
  mode := c.mode.code
  rate := (line.map fun l => l.rate.code).getD 0
  dataBits := (line.map fun l => l.dataBits.code).getD 0
  parity := (line.map fun l => l.parity.code).getD 0
  domain := (line.map fun l => l.domain.code).getD 0
  settleTime := BitVec.ofNat 16 c.settleTime
  reporting := yesNo c.reporting
  spacing := BitVec.ofNat 16 c.spacing

theorem RawSource.parse_bytes (b : Byte) (c : SourceConfig) (line : Option LineConfig) :
    RawSource.parse (b :: sourceConfigBytes c line) = some (b, c.raw line) := by
  have settle := join2_bytes2 (BitVec.ofNat 16 c.settleTime)
  have spacing := join2_bytes2 (BitVec.ofNat 16 c.spacing)
  cases line <;>
    simp only [sourceConfigBytes, nat2, bytes2, List.cons_append, List.nil_append, RawSource.parse, settle, spacing] <;> rfl

theorem SourceConfig.raw_common {c : SourceConfig} (hsettle : c.settleTime ≤ 2000) (hspacing : c.spacing ≤ 1000)
    (line : Option LineConfig) : (c.raw line).common? = some c := by
  have half {n : Nat} (hn : n ≤ 2000) : (BitVec.ofNat 16 n).toNat = n := by
    rw [BitVec.toNat_ofNat, Nat.mod_eq_of_lt (by omega)]
  have settle : settleTime? (BitVec.ofNat 16 c.settleTime) = some c.settleTime := by
    rw [settleTime?, half hsettle, if_pos hsettle]
  have spacing : spacing? (BitVec.ofNat 16 c.spacing) = some c.spacing := by
    rw [spacing?, half (by omega), if_pos hspacing]
  simp [RawSource.common?, SourceConfig.raw, settle, spacing]

theorem SourceConfig.raw_lineFor {src : SourceId} {line : Option LineConfig} (hline : line.isSome = true ↔ src ≠ 6)
    (c : SourceConfig) : (c.raw line).lineFor? src = some line := by
  unfold RawSource.lineFor? serialOf?
  split
  next i h =>
    obtain ⟨hlt, -⟩ := Option.dite_none_right_eq_some.1 h
    obtain ⟨l, rfl⟩ := Option.isSome_iff_exists.1 (hline.2 fun e => by rw [e] at hlt; exact Nat.lt_irrefl 6 hlt)
    simp [RawSource.line?, SourceConfig.raw]
  next h =>
    have hsrc : src = 6 := by
      have : ¬src.val < 6 := fun hlt => by rw [dif_pos hlt] at h; cases h
      exact Fin.ext (show src.val = 6 by omega)
    cases line with
    | none => rfl
    | some l => exact absurd hsrc (hline.1 rfl)

theorem lineFits_of_isSome {src : SourceId} {line : Option LineConfig} (hline : line.isSome = true ↔ src ≠ 6) :
    LineFits src line := by
  intro i hi
  refine hline.2 fun e => ?_
  rw [e] at hi
  cases hi

/-- SET_SOURCE at the source, with every field in range (R63). -/
theorem answerOf_setSource {src : SourceId} {c : SourceConfig} {line : Option LineConfig}
    (hline : line.isSome = true ↔ src ≠ 6) (hsettle : c.settleTime ≤ 2000) (hspacing : c.spacing ≤ 1000) (s : State) :
    answerOf .setSource (indexByte src :: sourceConfigBytes c line) s =
      if (s.sources.get src).config.enable = true ∧ c.enable = true then .refuse .busy
      else
        .accept ([(s.sources.get src).state.code,
            ((((s.configureSource src c line).applySource src).sources.get src).state).code] ++
          bytes4 (s.sources.get src).received ++ bytes2 (s.errorCount src))
          ((s.configureSource src c line).applySource src) := by
  simp only [answerOf, answerSetSource, RawSource.parse_bytes, index?_indexByte (show 7 ≤ 256 by decide) src,
    SourceConfig.raw_common hsettle hspacing, SourceConfig.raw_lineFor hline]

theorem State.sourceIn_state (s : State) (src : SourceId) (c : SourceConfig) (line : Option LineConfig) (st : SourceState)
    (rcv : SerialId → Receiver → Receiver) : ((s.sourceIn src c line st rcv).sources.get src).state = st := by
  rw [State.sourceIn_source, Table.get_set_self]

/-- What the receiver becomes is judged by the receiver as it stands. -/
theorem State.sourceIn_congr {s : State} {src : SourceId} {f g : SerialId → Receiver → Receiver}
    (h : ∀ i, serialOf? src = some i → f i (s.serials.get i).receiver = g i (s.serials.get i).receiver) (c : SourceConfig)
    (line : Option LineConfig) (st : SourceState) : s.sourceIn src c line st f = s.sourceIn src c line st g := by
  cases hi : serialOf? src with
  | none => rw [State.sourceIn_SC s hi, State.sourceIn_SC s hi]
  | some i =>
    cases line with
    | none => simp [State.sourceIn, hi]
    | some l =>
      have hf := h i hi
      obtain rfl := serialOf?_eq_some.1 hi
      rw [State.sourceIn_serial, State.sourceIn_serial, hf]

/-- An accepted SET_SOURCE, with the state that the source is left in. -/
theorem setSource_accepted {s e : State} {q : Byte} {src : SourceId} {c : SourceConfig} {line : Option LineConfig}
    {st : SourceState} (hreach : s.Reaches q .setSource) (hline : line.isSome = true ↔ src ≠ 6) (hsettle : c.settleTime ≤ 2000)
    (hspacing : c.spacing ≤ 1000) (hfree : ¬((s.sources.get src).config.enable = true ∧ c.enable = true))
    (he : e = (s.afterFrame.configureSource src c line).applySource src) (hst : (e.sources.get src).state = st) :
    ∃ t, exec (.setSource q (indexByte src :: sourceConfigBytes c line)) s = .next t ∧
      e.Answered t
        { seq := q, kind := 0x10, restart := false
          payload := [0x00, (s.sources.get src).state.code, st.code] ++ bytes4 (s.sources.get src).received ++
            bytes2 (match serialOf? src with
              | some i => (s.serials.get i).errors
              | none => 0) } := by
  have hlen : (indexByte src :: sourceConfigBytes c line).length ≤ 248 := by
    cases line <;> simp [sourceConfigBytes]
  have answer := answerOf_setSource hline hsettle hspacing s.afterFrame
  rw [if_neg (by simpa using hfree), ← he, hst] at answer
  refine exec_accepted (k := .setSource) rfl hreach hlen answer rfl ?_
  unfold State.errorCount
  cases serialOf? src <;> rfl

/-- Settles O25: the state that each case of enable and mode leaves the source in (`State.applySource_off` and the others of its
layer). -/
theorem setSource : Obligations.SetSource := by
  intro s q src c line hreach hline hsettle hspacing old i payload inState reply fromIdle
  have fits := lineFits_of_isSome hline
  have moved (st : SourceState) (rcv : SerialId → Receiver) :
      inState st rcv = s.afterFrame.sourceIn src c line st fun i _ => rcv i := by
    simp only [inState, State.sourceIn, i]
    cases serialOf? src <;> cases line <;> rfl
  have idle : fromIdle = fun i => receiverAt (s.pins.lines.get i) := by
    funext i
    rw [receiverAt_eq]
  refine ⟨fun hold hc => ?_, fun hc => ?_, fun hold hc hm => ?_, fun hold hc hm ht => ?_, fun hold hoff hstopped hc hm ht => ?_⟩
  · have hlen : payload.length ≤ 248 := by
      cases line <;> simp [payload, sourceConfigBytes]
    refine exec_refuses (k := .setSource) (st := .busy) rfl hreach hlen ?_ rfl
    rw [answerOf_setSource hline hsettle hspacing, if_pos ⟨hold, hc⟩]
  · refine setSource_accepted hreach hline hsettle hspacing (by simp [hc]) ?_ ?_
    · rw [State.applySource_off _ fits hc, ← moved .off fun _ => .stopped]
      rfl
    · have state : ((inState .off fun _ => .stopped).sources.get src).state = .off := by rw [moved, State.sourceIn_state]
      split <;> split <;> exact state
  · refine setSource_accepted hreach hline hsettle hspacing (fun h => by simp [old] at hold; simp [hold] at h) ?_ ?_
    · rw [moved, State.applySource_test _ fits hc hm]
    · rw [moved, State.sourceIn_state]
  · refine setSource_accepted hreach hline hsettle hspacing (fun h => by simp [old] at hold; simp [hold] at h) ?_ ?_
    · rw [moved, State.applySource_settling _ fits hc hm ht, idle]
      rfl
    · rw [moved, State.sourceIn_state]
  · refine setSource_accepted hreach hline hsettle hspacing (fun h => by simp [old] at hold; simp [hold] at h) ?_ ?_
    · rw [moved, State.applySource_listening _ fits hc hm ht, idle, State.sourceIn_congr]
      intro i hi
      rw [show s.afterFrame.serials = s.serials from rfl, hstopped i hi]
      rfl
    · rw [moved, State.offerIf]
      split <;> exact s.afterFrame.sourceIn_state src c line .listening fun i _ => fromIdle i

/-! ### READ_SOURCE and READ_CONTACTS (R72, R86, R87) -/

theorem Source.waitsForPower_byte (c : Source) :
    yesNo c.waitsForPower = if c.config.enable = true ∧ c.state = .off then 1 else 0 := by
  simp [yesNo, Source.waitsForPower]

theorem SourceState.settleField (st : SourceState) : optField nat2 st.settleRemaining = match st with
    | .settling n => 1 :: nat2 n
    | _ => [0] := by
  cases st <;> rfl

/-- READ_SOURCE at the source (R72, R87). -/
theorem answerOf_readSource (s : State) (src : SourceId) :
    answerOf .readSource [indexByte src] s =
      .accept (sourceConfigBytes (s.sources.get src).config (s.lineOf src) ++
        [(s.sources.get src).state.code, yesNo (s.sources.get src).waitsForPower] ++
        optField nat2 (s.sources.get src).state.settleRemaining ++ bytes4 (s.sources.get src).received ++
        bytes2 (s.errorCount src) ++
        [yesNo (((serialOf? src).map fun i => (s.serials.get i).errorFlag).getD false), yesNo (s.shortFlags.get src),
          byteOf (s.injectors.get src).queue.length]) s := by
  simp only [answerOf, answerReadSource, index?_indexByte (show 7 ≤ 256 by decide) src]
  cases serialOf? src <;> rfl

/-- Settles O26: the items field by field, for a serial source and for SC, and contact by contact. -/
theorem readSourceAndContacts : Obligations.ReadSourceAndContacts := by
  refine ⟨fun s q src hreach => ?_, fun s q hreach => ?_⟩
  · intro c x
    have answer := answerOf_readSource s.afterFrame src
    refine exec_accepted (k := .readSource) rfl hreach (by simp) answer rfl ?_
    rw [Source.waitsForPower_byte, SourceState.settleField]
    simp only [x, State.lineOf, State.errorCount]
    cases serialOf? src <;> simp [sourceConfigBytes] <;> exact ⟨rfl, rfl, rfl, rfl⟩
  · refine exec_accepted (k := .readContacts) (s' := s.afterFrame) (items :=
      (s.sources.get sourceSC).state.code :: (List.finRange 8).flatMap s.contactBytes) rfl hreach (by simp) rfl rfl ?_
    have contact : s.contactBytes = fun k =>
        let c := s.contacts.get k
        [contactPolarityCode c.config.polarity, byteOf c.config.debounce, c.config.selection.code,
          levelCode (s.pins.contacts.get k), levelCode c.stable, yesNo (c.config.polarity.active c.stable)] ++
          (match c.timer with
            | some n => [1, byteOf n]
            | none => [0]) := by
      funext k
      unfold State.contactBytes
      dsimp only
      cases (s.contacts.get k).timer <;> rfl
    rw [contact]
    rfl

/-! ### INJECT and CANCEL_INJECT (R89 to R92, R97) -/

/-- An entry as the length stage of INJECT splits it. -/
def Symbol.entryPair : Symbol → Byte × Byte
  | .value v => (0, v)
  | .error k => (1, k.code)

theorem injectionEntry?_pair (e : Symbol) : injectionEntry? e.entryPair = some e := by
  cases e <;> simp [injectionEntry?, Symbol.entryPair]

theorem injectionEntries?_pairs (line : Option LineConfig) (es : List Symbol) :
    injectionEntries? line (es.map Symbol.entryPair) = if ∀ e ∈ es, entryAllowed line e = true then some es else none := by
  induction es with
  | nil => simp [injectionEntries?]
  | cons e es ih =>
    simp only [List.map_cons, injectionEntries?, injectionEntry?_pair, ih, List.forall_mem_cons]
    by_cases hes : ∀ e ∈ es, entryAllowed line e = true
    · rw [if_pos hes]
      exact ite_eq_of_iff (and_iff_left hes).symm
    · rw [if_neg hes, if_neg fun h => hes h.2]

theorem parseInject_bytes {es : List Symbol} (hlo : 1 ≤ es.length) (hhi : es.length ≤ 32) (b : Byte) :
    parseInject (b :: byteOf es.length :: es.flatMap Symbol.entryBytes) = some (b, es.map Symbol.entryPair) := by
  have count : (byteOf es.length).toNat = es.length := byteOf_toNat (by omega)
  have bytes : es.flatMap Symbol.entryBytes = (es.map Symbol.entryPair).flatMap fun p => [p.1, p.2] := by
    rw [List.flatMap_map]
    congr 1
    funext e
    cases e <;> rfl
  have pairs := pairs?_flatMap (es.map Symbol.entryPair)
  rw [List.length_map] at pairs
  rw [parseInject, count, if_pos ⟨hlo, hhi⟩, bytes, pairs]
  rfl

/-- R90: what a source may be given. -/
theorem entryAllowed_iff (s : State) (src : SourceId) (e : Symbol) :
    entryAllowed (s.lineOf src) e = true ↔
      match (serialOf? src).map fun i => (s.serials.get i).line.dataBits, e with
      | some .seven, .value v => v.toNat ≤ 127
      | some _, _ => True
      | none, .value v => v.toNat ≤ 7 ∨ (16 ≤ v.toNat ∧ v.toNat ≤ 23)
      | none, .error _ => False := by
  unfold State.lineOf
  cases serialOf? src with
  | none => cases e <;> simp [entryAllowed]
  | some i => cases h : (s.serials.get i).line.dataBits <;> cases e <;> simp [entryAllowed, h]

/-- INJECT at the injector, with a length in range (R90, R91). -/
theorem answerOf_inject {es : List Symbol} (hlo : 1 ≤ es.length) (hhi : es.length ≤ 32) (s : State) (src : SourceId) :
    answerOf .inject (indexByte src :: byteOf es.length :: es.flatMap Symbol.entryBytes) s =
      if ∀ e ∈ es, entryAllowed (s.lineOf src) e = true then
        if (s.sources.get src).state ≠ .test then .refuse .wrongState
        else if 32 < (s.injectors.get src).queue.length + es.length then .refuse .full
        else
          .accept (byteOf ((s.injectors.get src).queue.length + es.length) :: bytes2 (s.injectors.get src).delivered)
            { s with
              injectors := s.injectors.set src ((s.injectors.get src).append es (s.sources.get src).config.spacing) }
      else .refuse .badValue := by
  simp only [answerOf, answerInject, parseInject_bytes hlo hhi, index?_indexByte (show 7 ≤ 256 by decide) src,
    injectionEntries?_pairs]
  by_cases h : ∀ e ∈ es, entryAllowed (s.lineOf src) e = true
  · rw [if_pos h, if_pos h]
    dsimp only [Injector.append]
    rw [List.length_append]
    rfl
  · rw [if_neg h, if_neg h]

/-- CANCEL_INJECT at the injector (R97). -/
theorem answerOf_cancelInject (s : State) (src : SourceId) :
    answerOf .cancelInject [indexByte src] s =
      if (s.injectors.get src).queue = [] then .accept [0, 0, 0, 0] s
      else
        .accept (bytes2 (s.injectors.get src).delivered ++
          bytes2 (countUpBy (s.injectors.get src).cancelled (s.injectors.get src).queue.length)) (s.endRun src .cancelled) := by
  simp only [answerOf, answerCancelInject, index?_indexByte (show 7 ≤ 256 by decide) src]
  rfl

/-- Settles O27: the entries that were written are the ones read (`parseInject_bytes`, `injectionEntries?_pairs`). -/
theorem injectAndCancel : Obligations.InjectAndCancel := by
  refine ⟨fun s q src es hreach hlo hhi => ?_, fun s q src hreach => ?_⟩
  · intro payload allowed j refusal
    have hallowed : allowed ↔ ∀ e ∈ es, entryAllowed (s.lineOf src) e = true := by
      simp only [entryAllowed_iff]
      rfl
    have hlen : payload.length ≤ 248 := by
      have bytes : (es.flatMap Symbol.entryBytes).length = 2 * es.length :=
        length_flatMap_pairs (fun e => by cases e <;> rfl) es
      simp only [payload, List.length_cons, bytes]
      omega
    have answer := answerOf_inject hlo hhi s.afterFrame src
    have refused (st : Status) (h : answerOf .inject payload s.afterFrame = .refuse st) : refusal st.code :=
      exec_refuses (k := .inject) rfl hreach hlen h rfl
    refine ⟨fun h => refused .badValue ?_, fun h hstate => refused .wrongState ?_, fun h hstate hfull => refused .full ?_,
      fun h hstate hroom => ?_⟩
    · exact answer.trans (if_neg (mt hallowed.2 h))
    · exact (answer.trans (if_pos (hallowed.1 h))).trans (if_pos hstate)
    · exact ((answer.trans (if_pos (hallowed.1 h))).trans (if_neg (Classical.not_not.2 hstate))).trans (if_pos hfull)
    · exact exec_accepted (k := .inject) rfl hreach hlen (((answer.trans (if_pos (hallowed.1 h))).trans
        (if_neg (Classical.not_not.2 hstate))).trans (if_neg (Nat.not_lt.2 hroom))) rfl rfl
  · intro j cancelled
    have answer := answerOf_cancelInject s.afterFrame src
    exact ⟨fun h => exec_accepted (k := .cancelInject) rfl hreach (by simp) (answer.trans (if_pos h)) rfl rfl,
      fun h => exec_accepted (k := .cancelInject) rfl hreach (by simp) (answer.trans (if_neg h)) rfl rfl⟩

/-! ### SET_CONTACT (R84) -/

theorem contactConfig?_bytes {cfg : ContactConfig}
    (h : cfg.debounce = 0 ∨ cfg.debounce = 5 ∨ cfg.debounce = 20 ∨ cfg.debounce = 50) :
    contactConfig? (contactPolarityCode cfg.polarity) (byteOf cfg.debounce) cfg.selection.code = some cfg := by
  have debounce : debounce? (byteOf cfg.debounce) = some cfg.debounce := by
    rcases h with h | h | h | h <;> rw [h] <;> rfl
  simp [contactConfig?, debounce]

/-- SET_CONTACT at the contact unit, with every field in range (R84). -/
theorem answerOf_setContact {cfg : ContactConfig}
    (h : cfg.debounce = 0 ∨ cfg.debounce = 5 ∨ cfg.debounce = 20 ∨ cfg.debounce = 50) (s : State) (k : ContactId) :
    answerOf .setContact (indexByte k :: cfg.bytes) s =
      .accept ((s.contacts.get k).config.bytes ++ ((s.configureContact k cfg).contacts.get k).levelBytes)
        (s.configureContact k cfg) := by
  simp only [answerOf, answerSetContact, ContactConfig.bytes, index?_indexByte (show 8 ≤ 256 by decide) k,
    contactConfig?_bytes h]

theorem State.configureContact_stopped {s : State} {k : ContactId} (h : (s.contacts.get k).timer = none) (cfg : ContactConfig) :
    s.configureContact k cfg = { s with contacts := s.contacts.set k { s.contacts.get k with config := cfg } } := by
  unfold State.configureContact
  dsimp only
  rw [h]

/-- A running timer with the new debounce time 0: the pin level becomes stable (R84, R75). -/
theorem State.configureContact_stable {s : State} {k : ContactId} {cfg : ContactConfig} (h : (s.contacts.get k).timer ≠ none)
    (hd : cfg.debounce = 0) :
    s.configureContact k cfg =
      ({ s with contacts := s.contacts.set k { config := cfg, stable := s.pins.contacts.get k, timer := none } } : State
        ).contactArrival (contactSymbol k cfg.selection (cfg.polarity.active (s.pins.contacts.get k))) := by
  obtain ⟨n, h⟩ := Option.ne_none_iff_exists'.1 h
  unfold State.configureContact
  dsimp only
  rw [h]
  dsimp only
  rw [if_pos hd, State.stableChange]
  simp

theorem State.configureContact_restarted {s : State} {k : ContactId} {cfg : ContactConfig}
    (h : (s.contacts.get k).timer ≠ none) (hd : cfg.debounce ≠ 0) :
    s.configureContact k cfg =
      { s with
        contacts := s.contacts.set k { config := cfg, stable := (s.contacts.get k).stable, timer := some cfg.debounce } } := by
  obtain ⟨n, h⟩ := Option.ne_none_iff_exists'.1 h
  unfold State.configureContact
  dsimp only
  rw [h]
  dsimp only
  rw [if_neg hd, State.setDebounce]
  simp [Table.modify]

/-- Settles O33: the timer of the channel stopped, running with debounce time 0, and running otherwise. -/
theorem setContact : Obligations.SetContact := by
  intro s q k cfg hreach hcfg c pin stable
  have answer := answerOf_setContact hcfg s.afterFrame k
  by_cases ht : c.timer = none
  · rw [State.configureContact_stopped (s := s.afterFrame) ht] at answer
    have hstable : stable = c.stable := if_neg fun h => h.1 ht
    rw [hstable]
    refine exec_accepted (k := .setContact) rfl hreach (by simp [ContactConfig.bytes]) answer (if_pos ht) ?_
    rw [Table.get_set_self]
    rfl
  by_cases hd : cfg.debounce = 0
  · rw [State.configureContact_stable (s := s.afterFrame) ht hd] at answer
    have hstable : stable = pin := if_pos ⟨ht, hd⟩
    rw [hstable]
    refine exec_accepted (k := .setContact) rfl hreach (by simp [ContactConfig.bytes]) answer
      ((if_neg ht).trans (if_pos hd)) ?_
    have contact : ((State.contactArrival { s.afterFrame with
        contacts := s.contacts.set k { config := cfg, stable := pin, timer := none } }
        (contactSymbol k cfg.selection (cfg.polarity.active pin))).contacts.get k) =
        { config := cfg, stable := pin, timer := none } := by
      simp
    exact congrArg (fun x : Contact => Reply.mk q 0x14 (0x00 :: (c.config.bytes ++ x.levelBytes)) false) contact.symm
  · rw [State.configureContact_restarted (s := s.afterFrame) ht hd] at answer
    have hstable : stable = c.stable := if_neg fun h => hd h.2
    rw [hstable]
    refine exec_accepted (k := .setContact) rfl hreach (by simp [ContactConfig.bytes]) answer
      ((if_neg ht).trans (if_neg hd)) ?_
    rw [Table.get_set_self]
    rfl

end Sys2Proof.Machine
end

section
/-! PROOFS. What the part sends and what happens at its sources and contacts: frames (section 8.2), notices (section 9.3), characters,
line levels, contacts and injected entries (chapters 3 to 5). -/
namespace Sys2Proof.Machine

/-! ### Frames (R143, R144, section 11.5) -/

/-- A number in two bytes, high byte first, as a statement spells it out. -/
def twoBytes (n : Nat) : List Byte := [BitVec.ofNat 8 (n / 0x100), BitVec.ofNat 8 n]

theorem twoBytes_toNat (h : Half) : twoBytes h.toNat = bytes2 h := by
  simp only [twoBytes, bytes2, List.cons.injEq, and_true]
  constructor <;> apply BitVec.eq_of_toNat_eq <;> simp [BitVec.extractLsb'_toNat, Nat.shiftRight_eq_div_pow]

theorem fourBytes_toNat (w : Word) : twoBytes (w.toNat / 0x10000) ++ twoBytes w.toNat = bytes4 w := by
  simp only [twoBytes, bytes4, List.cons_append, List.nil_append, List.cons.injEq, and_true]
  refine ⟨?_, ?_, ?_, ?_⟩ <;> apply BitVec.eq_of_toNat_eq <;>
    simp [BitVec.extractLsb'_toNat, Nat.shiftRight_eq_div_pow, Nat.div_div_eq_div_mul]

/-- One shift of the check register, by its bit 15 (R144). -/
theorem checkShift_eq (r : Half) :
    checkShift r = if r.getLsbD 15 = true then (r <<< 1) ^^^ 0x1021 else r <<< 1 := rfl

theorem byte_append_zero (b : Byte) : b ++ (0 : Byte) = b.setWidth 16 <<< 8 := by
  apply BitVec.eq_of_getLsbD_eq
  intro i hi
  rw [BitVec.getLsbD_append, BitVec.getLsbD_shiftLeft, BitVec.getLsbD_setWidth]
  by_cases h : i < 8 <;> simp [h, hi]
  omega

theorem checkValue_append (bs : List Byte) (b : Byte) :
    checkValue (bs ++ [b]) = Nat.repeat (fun r : Half => if r.getLsbD 15 = true then (r <<< 1) ^^^ 0x1021 else r <<< 1) 8
      (checkValue bs ^^^ (b.setWidth 16 <<< 8)) := by
  rw [checkValue, List.foldl_append, ← byte_append_zero]
  rfl

theorem Reply.frame_eq (r : Reply) :
    r.frame = 0xA7 :: (byteOf (r.payload.length + 2) :: r.seq :: r.kind :: r.payload) ++
      twoBytes (checkValue (byteOf (r.payload.length + 2) :: r.seq :: r.kind :: r.payload)).toNat := by
  rw [twoBytes_toNat]
  rfl

/-- Settles O4: the check byte by byte (`checkValue_append`), and the frames with every field of more than one byte written out
(`twoBytes_toNat`, `fourBytes_toNat`). -/
theorem checkAndFrames : Obligations.CheckAndFrames := by
  refine ⟨rfl, checkValue_append, by decide +kernel, ?_⟩
  intro two four frame
  refine ⟨Reply.frame_eq, fun r => ?_⟩
  have two_eq (h : Half) : two h.toNat = bytes2 h := twoBytes_toNat h
  have four_eq (w : Word) : four w.toNat = bytes4 w := fourBytes_toNat w
  have frame_eq (seq kind : Byte) (payload : List Byte) : frame seq kind payload = frameBytes seq kind payload := by
    simp only [frame, two_eq]
    rfl
  rw [frame_eq, two_eq]
  unfold Record.notice Record.bytes
  cases r.body with
  | started cause => cases cause <;> simp [RecordBody.kindCode, RecordBody.bytes, four_eq] <;> rfl
  | hit p label src count start capture => cases capture <;> simp [RecordBody.kindCode, RecordBody.bytes, four_eq, two_eq] <;> rfl
  | lineError src kind => cases kind <;> simp [RecordBody.kindCode, RecordBody.bytes, four_eq] <;> rfl
  | sourceState src change => cases change <;> simp [RecordBody.kindCode, RecordBody.bytes, four_eq] <;> rfl
  | trackerShort src p => simp [RecordBody.kindCode, RecordBody.bytes, four_eq]; rfl
  | injectDone src delivered cancelled reason => cases reason <;> simp [RecordBody.kindCode, RecordBody.bytes, four_eq, two_eq] <;> rfl
  | power state => cases state <;> simp [RecordBody.kindCode, RecordBody.bytes, four_eq] <;> rfl
  | lost count => simp [RecordBody.kindCode, RecordBody.bytes, four_eq, two_eq]; rfl

/-! ### Delivery (R58 to R60) -/

/-- Settles O30: an arrival leaves the serial sources, the sources' configurations and the clock as they were. -/
theorem delivery : Obligations.Delivery := by
  intro s src sym counted judged
  refine ⟨fun v hv => by subst hv; rfl, fun k i hsym hsrc => ?_⟩
  subst hsym hsrc
  intro x reports enters
  have serials : judged.serials = s.serials := by simp [judged, counted]
  have clock : judged.clock = s.clock := by simp [judged, counted]
  have config : (judged.sources.get (sourceOf i)).config = (s.sources.get (sourceOf i)).config := by simp [judged, counted]
  have accepts : judged.queue.accepts = true ↔ enters := judged.queue.accepts_iff
  have noted : s.deliver (sourceOf i) (.error k) =
      ({ judged with serials := s.serials.modify i fun c => { c with errors := countUp c.errors } } : State).reportLineError i k := by
    change judged.noteError (sourceOf i) (.error k) = _
    simp only [State.noteError, serialOf?_sourceOf, serials]
  rw [noted, State.reportLineError]
  simp only [config, Table.get_modify_self]
  by_cases hr : reports
  · rw [if_pos hr]
    simp only [hr, true_and, State.offer, clock]
    by_cases he : enters
    · simp [accepts.2 he, he, Table.modify, x]
    · simp [mt accepts.1 he, he, Table.modify, x]
  · rw [if_neg hr]
    simp only [hr, false_and, if_false]
    rfl

/-! ### Characters and line levels at a serial source (R55 to R58, R66, R83) -/

/-- Settles O29: a character that a receiver takes (`Receiver.takes`), judged as `LineConfig.judge_eq` says. -/
theorem serialCharacter : Obligations.SerialCharacter := by
  intro s i data parityBit stopBit c bits ones sym after
  have judged : c.line.judge data parityBit stopBit = sym := c.line.judge_eq data parityBit stopBit
  have ended : (s.setLine i stopBit).setReceiver (sourceOf i) (fun _ _ => receiverAt stopBit) = after := by
    rw [State.setReceiver_serial]
    cases stopBit <;> rfl
  have discarded (h : c.receiver.takes (s.sources.get (sourceOf i)).state = some true) :
      exec (.serialCharacter i data parityBit stopBit) s = .next after := by
    change execSerialCharacter i data parityBit stopBit s = _
    simp only [execSerialCharacter, c] at h ⊢
    rw [h, ← ended]
    rfl
  refine ⟨fun hst hr => ?_, fun ⟨n, hst⟩ hr => ?_, fun hr => discarded (by rw [hr]; rfl)⟩
  · have taken : c.receiver.takes (s.sources.get (sourceOf i)).state = some false := by
      rcases hr with hr | hr <;> rw [hr, hst] <;> rfl
    refine ⟨_, ?_, State.arbitrate_spec _⟩
    change execSerialCharacter i data parityBit stopBit s = _
    simp only [execSerialCharacter, c] at taken judged ⊢
    rw [taken, ← ended, ← judged]
    dsimp only
    rw [if_pos ⟨rfl, hst⟩]
  · rcases hr with hr | ⟨d, hr⟩
    · exact discarded (by rw [hr, hst]; rfl)
    · cases d with
      | true => exact discarded (by rw [hr]; rfl)
      | false =>
        change execSerialCharacter i data parityBit stopBit s = _
        have taken : c.receiver.takes (s.sources.get (sourceOf i)).state = some false := by rw [hr]; rfl
        simp only [execSerialCharacter, c] at taken ⊢
        rw [taken, ← ended]
        dsimp only
        rw [if_neg (by simp [hst])]

def SourceState.isSettling : SourceState → Bool
  | .settling _ => true
  | _ => false

/-- A receiver after a change of its line's level (R55): only a fall in hunting begins a character. -/
def Receiver.after (r : Receiver) (level : Level) (mid settling : Bool) : Receiver :=
  if r = .hunting ∧ level = .low then (if mid = true then .receiving settling else .hunting) else r.sees level

/-- A change of a source line's level (R55). -/
theorem execSourceLineLevelChange_eq {s : State} {i : SerialId} {level : Level} (h : s.pins.lines.get i ≠ level) (mid : Bool) :
    exec (.sourceLineLevelChange i level mid) s = .next { s with
      pins := { s.pins with lines := s.pins.lines.set i level }
      serials := s.serials.set i { s.serials.get i with
        receiver := (s.serials.get i).receiver.after level mid (s.sources.get (sourceOf i)).state.isSettling } } := by
  change execSourceLineLevelChange i level mid s = _
  rw [execSourceLineLevelChange, if_neg h]
  dsimp only
  rw [State.setReceiver_serial]
  simp only [State.setLine]
  cases (s.serials.get i).receiver <;> cases level <;> cases (s.sources.get (sourceOf i)).state <;> rfl

/-- The entry to LISTENING of any source (R66, R83). -/
theorem State.enterListening_eq (s : State) (src : SourceId) :
    s.enterListening src =
      ({ s with
        sources := s.sources.set src { s.sources.get src with state := .listening }
        serials :=
          match serialOf? src with
          | some i => s.serials.modify i fun x => { x with receiver :=
              match x.receiver with
              | .receiving d => .receiving d
              | _ => if s.pins.lines.get i = Level.high then .hunting else .waiting }
          | none => s.serials } : State).offerIf (s.sources.get src).config.reporting (.sourceState src .listeningSettled) := by
  have receiver (l : Level) (r : Receiver) : receiverAtListening l r = match r with
      | .receiving d => .receiving d
      | _ => if l = Level.high then .hunting else .waiting := by
    cases r <;> simp [receiverAtListening, receiverAt_eq]
  unfold State.enterListening State.reportSource State.setReceiver
  cases hi : serialOf? src with
  | none => simp [State.setSourceState, Table.modify]
  | some i => simp [State.setSourceState, Table.modify, receiver]

/-- Settles O31: the level's effect on the receiver (`execSourceLineLevelChange_eq`), and the entry to LISTENING
(`State.enterListening_eq`). -/
theorem lineLevelsAndSettling : Obligations.LineLevelsAndSettling := by
  refine ⟨fun s i mid => ?_, fun s src => ?_⟩
  · intro r becomes
    have changes {l : Level} {mid : Bool} {r' : Receiver} (h : s.pins.lines.get i ≠ l)
        (hr : r.after l mid (s.sources.get (sourceOf i)).state.isSettling = r') :
        exec (.sourceLineLevelChange i l mid) s = .next (becomes l r') := by
      rw [execSourceLineLevelChange_eq h, ← hr]
    refine ⟨fun hlow => changes (by simp [hlow]) ?_, fun hhigh hno => changes (by simp [hhigh]) ?_,
      fun hhigh hr hst => changes (by simp [hhigh]) ?_, fun hhigh hr ⟨n, hst⟩ => changes (by simp [hhigh]) ?_⟩
    · cases r <;> rfl
    · rcases hno with hno | rfl
      · simp only [Receiver.after, hno, false_and, if_false]
        cases r <;> rfl
      · cases r <;> rfl
    · rw [hr, hst]
      rfl
    · rw [hr, hst]
      rfl
  · refine ⟨fun hst => ⟨(s.enterListening src).arbitrate, ?_, ?_⟩, fun n hst => ?_⟩
    · change execSettleExpiry src s = _
      rw [execSettleExpiry, hst]
      exact if_pos rfl
    · rw [State.enterListening_eq]
      exact State.arbitrate_spec _
    · change execSettleExpiry src s = _
      rw [execSettleExpiry, hst, if_neg (by simp [SourceState.settleRemaining, timerDue])]

/-! ### Contacts (R75 to R78) -/

/-- The contact symbol of a stable level, as R78's table has it. -/
theorem contactSymbol_eq (k : ContactId) (cfg : ContactConfig) (level : Level) :
    contactSymbol k cfg.selection (cfg.polarity.active level) =
      match cfg.selection,
        decide ((cfg.polarity = .activeLow ∧ level = .low) ∨ (cfg.polarity = .activeHigh ∧ level = .high)) with
      | .press, true => some (byteOf k.val)
      | .both, true => some (byteOf k.val)
      | .release, false => some (byteOf (16 + k.val))
      | .both, false => some (byteOf (16 + k.val))
      | _, _ => none := by
  cases cfg.polarity <;> cases level <;> cases cfg.selection <;> rfl

/-- The response of a channel to its pin's new level, the timer's two cases as one test (R76, R77). -/
theorem State.contactPin_eq (s : State) (k : ContactId) (level : Level) :
    s.contactPin k level =
      if level = (s.contacts.get k).stable then s.setDebounce k none
      else if (s.contacts.get k).config.debounce = 0 then s.stableChange k level
      else if (s.contacts.get k).timer = none then s.setDebounce k (some (s.contacts.get k).config.debounce)
      else s := by
  unfold State.contactPin
  cases h : (s.contacts.get k).timer <;> simp [h]

/-- Settles O32: the cases of `State.contactPin_eq`, and the symbol of a stable change (`contactSymbol_eq`). -/
theorem contactEdges : Obligations.ContactEdges := by
  intro s k level c active symbol stableIn pinned
  have symbol_eq : contactSymbol k c.config.selection (c.config.polarity.active level) = symbol :=
    contactSymbol_eq k c.config level
  have stable (s0 : State) (h : s0.contacts = s.contacts) (hsources : s0.sources = s.sources) :
      s0.stableChange k level = stableIn s0 := by
    unfold State.stableChange
    rw [h]
    change State.contactArrival _ (contactSymbol k c.config.selection (c.config.polarity.active level)) = _
    rw [symbol_eq]
    simp only [State.contactArrival, stableIn, hsources]
    cases symbol <;> rfl
  refine ⟨fun hpin hlive => ⟨(pinned.contactPin k level).arbitrate, ?_, ?_⟩,
    fun hdue hpin hdiffers => ⟨(s.stableChange k level).arbitrate, ?_, ?_⟩, fun n hn => ?_⟩
  · change execContactPinChange k level s = _
    rw [execContactPinChange, if_neg hpin, if_neg (by simp [hlive])]
    rfl
  · rw [State.contactPin_eq, stable pinned rfl rfl]
    exact State.arbitrate_spec _
  · change execDebounceExpiry k s = _
    rw [execDebounceExpiry, if_pos ((timerDue_iff _).2 hdue), if_neg (by rw [hpin]; exact hdiffers), hpin]
  · rw [← stable s rfl rfl]
    exact State.arbitrate_spec _
  · change execDebounceExpiry k s = _
    exact if_neg (by rw [timerDue_iff]; simp only [c] at hn; simp [hn])

/-! ### Injected entries (R93, R95) -/

/-- Settles O28: the arrival leaves the injection queues and the sources' configurations as they were, so that what follows the
delivery finds the queue as it was handed on. -/
theorem injectDelivery : Obligations.InjectDelivery := by
  intro s src sym rest j hqueue hstate
  refine ⟨fun hdue => ?_, fun n hn => ?_⟩
  · have hj : (s.injectors.get src).queue = sym :: rest := hqueue
    have taken : exec (.injectDelivery src) s = .next ((({ s with
        injectors := s.injectors.set src { j with
          queue := rest, delivered := countUp j.delivered, timer := none } } : State).deliver src sym).afterDelivery
          src).arbitrate := by
      change execInjectDelivery src s = _
      simp only [execInjectDelivery, hj]
      exact if_pos ⟨hstate, (timerDue_iff _).2 hdue⟩
    refine ⟨_, taken, ?_⟩
    intro delivered handed
    have injectors : (handed.deliver src sym).injectors = handed.injectors := by simp
    have config : ((handed.deliver src sym).sources.get src).config = (s.sources.get src).config := by
      rw [(handed.deliver_source src sym src).1]
    have after : (handed.deliver src sym).afterDelivery src =
        if rest = [] then
          ({ handed.deliver src sym with
            injectors := s.injectors.set src { queue := [], delivered := 0, cancelled := 0, timer := none } } : State).offer
            (.injectDone src delivered (countUpBy j.cancelled 0) .emptied)
        else
          { handed.deliver src sym with
            injectors := s.injectors.set src { j with
              queue := rest, delivered := delivered, timer := some (s.sources.get src).config.spacing } } := by
      unfold State.afterDelivery State.endRun
      simp only [injectors, config, Table.modify]
      simp only [handed, Table.get_set_self, Table.set_set]
      by_cases h : rest = []
      · rw [if_pos h, if_pos h, h]
        rfl
      · rw [if_neg h, if_neg h]
    rw [← after]
    exact State.arbitrate_spec _
  · have hj : (s.injectors.get src).queue = sym :: rest := hqueue
    change execInjectDelivery src s = _
    simp only [execInjectDelivery, hj]
    exact if_neg fun ⟨_, h⟩ => by rw [timerDue_iff] at h; exact absurd (hn.symm.trans h) (by simp)

/-! ### The choice of a notice (R163, R167) -/

/-- The queue holds 64 records at most (R101). -/
theorem EventQueue.Ok.length_le {q : EventQueue} (h : q.Ok) : q.records.length ≤ 64 := by
  obtain ⟨hordinary, hlost, -⟩ := h
  have split : q.records.length = q.records.countP Record.isLost + q.records.countP fun r => !r.isLost := by
    simpa using List.length_eq_countP_add_countP Record.isLost (l := q.records)
  unfold EventQueue.ordinaryCount at hordinary
  omega

/-- Records with consecutive numbers carry different numbers (R110). -/
theorem EventQueue.Ok.numbers_nodup {q : EventQueue} (h : q.Ok) : (q.records.map Record.number).Nodup := by
  have hlen := h.length_le
  obtain ⟨-, -, hnumbers⟩ := h
  rw [hnumbers]
  rw [List.Nodup, List.pairwise_map]
  refine List.Pairwise.imp_of_mem (fun {i j} hi hj hne hij => hne ?_) List.nodup_range
  rw [List.mem_range] at hi hj
  have age : BitVec.ofNat 16 (q.records.length - i) = BitVec.ofNat 16 (q.records.length - j) := by bv_omega
  have := congrArg BitVec.toNat age
  simp only [BitVec.toNat_ofNat] at this
  omega

/-- Marking the oldest WAITING record changes that record alone. -/
theorem EventQueue.Ok.markOldestWaiting_eq {q : EventQueue} (h : q.Ok) {r : Record} {rs : List Record}
    (hr : markOldestWaiting q.records = some (r, rs)) :
    rs = q.records.map fun x => if x = r then { x with mark := .sent } else x := by
  have hnodup : q.records.Nodup :=
    List.Pairwise.of_map Record.number (fun _ _ hne e => hne (congrArg _ e)) h.numbers_nodup
  obtain ⟨before, after, hrecords, rfl, -, -⟩ := markOldestWaiting_spec hr
  rw [hrecords, List.nodup_append, List.nodup_cons] at hnodup
  obtain ⟨-, ⟨hafter, -⟩, hbefore⟩ := hnodup
  have unchanged {l : List Record} (hl : r ∉ l) : (l.map fun x => if x = r then { x with mark := .sent } else x) = l := by
    exact (List.map_congr_left (g := id) fun x hx => if_neg fun e : x = r => hl (e ▸ hx)).trans (List.map_id l)
  rw [hrecords, List.map_append, List.map_cons, if_pos rfl, unchanged hafter,
    unchanged fun hr => hbefore r hr r List.mem_cons_self rfl]

theorem markOldestWaiting_isSome_iff (rs : List Record) :
    (markOldestWaiting rs).isSome = true ↔ ∃ r ∈ rs, r.mark = .waiting := by
  cases h : markOldestWaiting rs with
  | none =>
    have := markOldestWaiting_none h
    simp only [Option.isSome_none, Bool.false_eq_true, false_iff, not_exists, not_and]
    intro r hr hw
    exact absurd ((this r hr).symm.trans hw) nofun
  | some x =>
    obtain ⟨r, rs'⟩ := x
    obtain ⟨before, after, rfl, -, -, hw⟩ := markOldestWaiting_spec h
    simpa using ⟨r, .inr (.inl rfl), hw⟩

/-- A number of the resend list is that of a SENT record (R168). -/
theorem OpenSession.resend_sent {o : OpenSession} {q : EventQueue} (h : o.resend <:+ q.sentNumbers) {n : Half} {rest : List Half}
    (hn : o.resend = n :: rest) : ∃ r ∈ q.records, r.mark = .sent ∧ r.number = n := by
  have hmem : n ∈ q.sentNumbers := h.subset (by simp [hn])
  obtain ⟨r, hr, rfl⟩ := List.mem_map.1 hmem
  obtain ⟨hr, hs⟩ := List.mem_filter.1 hr
  exact ⟨r, hr, by simpa [Record.isSent_eq] using hs, rfl⟩

theorem OpenSession.timerAtHandover_eq (o : OpenSession) :
    o.timerAtHandover = if o.timer = none then some o.timeout else o.timer := by
  unfold OpenSession.timerAtHandover
  cases o.timer <;> rfl

/-- Settles O23. The record that heads the resend list is SENT because SENT records come before WAITING ones, and the one that
becomes SENT is changed alone because no two records carry one number. -/
theorem noticeChoice : Obligations.NoticeChoice := by
  intro s hqueue hmarks hsession
  refine ⟨⟨fun h => ?_, fun ⟨o, ho, h⟩ => ?_⟩, fun r s' h => ?_⟩
  · obtain ⟨⟨r, s'⟩, h⟩ := Option.isSome_iff_exists.1 h
    obtain ⟨o, ho, ⟨n, rest, hresend, -, -⟩ | ⟨-, hflow, hroom, rs, hmark, -⟩⟩ := State.chooseNotice_spec h
    · exact ⟨o, ho, .inl (by simp [hresend])⟩
    · refine ⟨o, ho, .inr ⟨hflow, (markOldestWaiting_isSome_iff _).1 (by simp [hmark]), ?_⟩⟩
      rwa [← EventQueue.sentCount_eq]
  · obtain ⟨-, -, -, -, -, -, hsuffix, -⟩ := hsession o ho
    refine Classical.byContradiction fun hnone => ?_
    have hnone := (s.chooseNotice_isNone_iff).1 (by simpa using hnone) o ho
    obtain ⟨hno, hno'⟩ := hnone
    cases hresend : o.resend with
    | cons n rest =>
      obtain ⟨r, hr, -, hn⟩ := OpenSession.resend_sent hsuffix hresend
      have := List.find?_eq_none.1 (hno n rest hresend) r hr
      simp [hn] at this
    | nil =>
      obtain hr | ⟨hflow, hwaiting, hroom⟩ := h
      · exact hr hresend
      · have := hno' hresend hflow (by rwa [EventQueue.sentCount_eq])
        have some := (markOldestWaiting_isSome_iff _).2 hwaiting
        rw [this] at some
        cases some
  · obtain ⟨hpair, -, -⟩ := hmarks
    obtain ⟨o, ho, ⟨n, rest, hresend, hfind, hs'⟩ | ⟨hresend, hflow, hroom, rs, hmark, hs'⟩⟩ := State.chooseNotice_spec h
    · obtain ⟨-, -, -, -, -, -, hsuffix, -⟩ := hsession o ho
      obtain ⟨hn, before, after, hrecords, hbefore⟩ := List.find?_eq_some_iff_append.1 hfind
      have sent : r.mark = .sent := by
        obtain ⟨x, hx, hxs, hxn⟩ := OpenSession.resend_sent hsuffix hresend
        rw [hrecords] at hx hpair
        rcases List.mem_append.1 hx with hx | hx
        · have := hbefore x hx
          simp [hxn] at this
        · rcases List.mem_cons.1 hx with rfl | hx
          · exact hxs
          · have := (List.pairwise_cons.1 (List.pairwise_append.1 hpair).2.1).1 x hx (by simp [Record.isSent_eq, hxs])
            simpa [Record.isSent_eq] using this
      have hne : o.resend ≠ [] := by simp [hresend]
      refine ⟨o, before, after, ho, hrecords, fun _ => ⟨?_, sent⟩, fun h => absurd h hne, ?_⟩
      · rw [hresend, List.head?_cons, of_decide_eq_true hn]
      · rw [if_neg hne, hs', hresend, List.tail_cons, OpenSession.timerAtHandover_eq]
    · obtain ⟨before, after, hrecords, -, hbefore, hwaiting⟩ := markOldestWaiting_spec hmark
      refine ⟨o, before, after, ho, hrecords, fun h => absurd hresend h, fun _ => ⟨hwaiting, fun x hx hw => ?_⟩, ?_⟩
      · exact absurd ((hbefore x hx).symm.trans hw) nofun
      · rw [if_pos hresend, hs', hqueue.markOldestWaiting_eq hmark, OpenSession.timerAtHandover_eq, hresend]
        rfl

end Sys2Proof.Machine
end

section
/-! PROOFS. The judging of one arrival (section 2.3): part 1 tracker by tracker, error symbols, what a pattern entry can
undergo, and the arrival at which one pattern alone takes part. -/
namespace Sys2Proof.Machine

/-! ### Part 1, tracker by tracker (R29 to R32) -/

theorem State.judgeTrackers_get (s : State) (src : SourceId) (sym : Symbol) (i : TrackerId) :
    (s.judgeTrackers src sym).trackers.get i = (s.trackers.get i).bind (s.trackerAfter src sym) := by
  change (s.trackers.map _).get i = _
  rw [Table.get_map]

theorem State.trackerAfter_untouched {s : State} {src : SourceId} {sym : Symbol} {t : Tracker}
    (h : t.source ≠ src ∨ s.participant src t.pattern = none) : s.trackerAfter src sym t = some t := by
  unfold State.trackerAfter
  rw [State.verdict_none h]

section
variable {s : State} {src : SourceId} {sym : Symbol} {t : Tracker} {d : Definition}

theorem State.trackerAfter_passed (hs : t.source = src) (hd : s.participant src t.pattern = some d)
    (hpass : d.passesOver sym = true) : s.trackerAfter src sym t = some t := by
  have hv : s.verdict src sym t = some .passedOver := by
    rw [State.verdict_some hs hd, Tracker.judge, if_pos hpass]
  unfold State.trackerAfter
  rw [hv]

theorem State.trackerAfter_advanced (hs : t.source = src) (hd : s.participant src t.pattern = some d)
    (hpass : d.passesOver sym = false) (hmatch : d.matchesStep t.next sym = true) (hmore : t.next + 1 ≠ d.steps.length) :
    s.trackerAfter src sym t = some { t with
      next := t.next + 1, gap := d.gapLimit, captured := t.captureNext sym } := by
  have hv : s.verdict src sym t = some (.advanced { t with
      next := t.next + 1, gap := d.gapLimit, captured := t.captureNext sym }) := by
    rw [State.verdict_some hs hd, Tracker.judge, hpass, if_neg nofun, if_pos hmatch, if_neg hmore]
  unfold State.trackerAfter
  rw [hv]

theorem State.verdict_completed (hs : t.source = src) (hd : s.participant src t.pattern = some d)
    (hpass : d.passesOver sym = false) (hmatch : d.matchesStep t.next sym = true) (hlast : t.next + 1 = d.steps.length) :
    s.verdict src sym t = some (.completed { pattern := t.pattern, start := t.start, captured := t.captureNext sym }) := by
  rw [State.verdict_some hs hd, Tracker.judge, hpass, if_neg nofun, if_pos hmatch, if_pos hlast]

theorem State.trackerAfter_completed (hs : t.source = src) (hd : s.participant src t.pattern = some d)
    (hpass : d.passesOver sym = false) (hmatch : d.matchesStep t.next sym = true) (hlast : t.next + 1 = d.steps.length) :
    s.trackerAfter src sym t = none := by
  unfold State.trackerAfter
  rw [State.verdict_completed hs hd hpass hmatch hlast]

theorem State.completionOf_completed (hs : t.source = src) (hd : s.participant src t.pattern = some d)
    (hpass : d.passesOver sym = false) (hmatch : d.matchesStep t.next sym = true) (hlast : t.next + 1 = d.steps.length) :
    s.completionOf src sym t = some { pattern := t.pattern, start := t.start, captured := t.captureNext sym } := by
  unfold State.completionOf
  rw [State.verdict_completed hs hd hpass hmatch hlast]

theorem State.verdict_mismatched (hs : t.source = src) (hd : s.participant src t.pattern = some d)
    (hpass : d.passesOver sym = false) (hmatch : d.matchesStep t.next sym = false) :
    s.verdict src sym t = some .mismatched := by
  rw [State.verdict_some hs hd, Tracker.judge, hpass, if_neg nofun, hmatch, if_neg nofun]

theorem State.trackerAfter_mismatched (hs : t.source = src) (hd : s.participant src t.pattern = some d)
    (hpass : d.passesOver sym = false) (hmatch : d.matchesStep t.next sym = false) : s.trackerAfter src sym t = none := by
  unfold State.trackerAfter
  rw [State.verdict_mismatched hs hd hpass hmatch]

theorem State.holdoffOf_mismatched (hs : t.source = src) (hd : s.participant src t.pattern = some d)
    (hpass : d.passesOver sym = false) (hmatch : d.matchesStep t.next sym = false) {time : Nat}
    (hpolicy : d.policy = .holdoff time) : s.holdoffOf src sym t = some (t.pattern, time) := by
  unfold State.holdoffOf
  rw [State.verdict_mismatched hs hd hpass hmatch, hd, Option.map_some, hpolicy]

end

/-- A holdoff that part 1 starts: every mismatch of the pattern on the source starts it at the same time (R32). -/
theorem State.judgeTrackers_holdoff {s : State} {src : SourceId} {sym : Symbol} {i : TrackerId} {t : Tracker} {d : Definition}
    {time : Nat} (hi : s.trackers.get i = some t) (hd : s.participant src t.pattern = some d)
    (hstarts : s.holdoffOf src sym t = some (t.pattern, time)) (hpolicy : d.policy = .holdoff time) :
    ((s.judgeTrackers src sym).holdoffs.get t.pattern).get src = some time := by
  have same : ∀ x ∈ s.usedTrackers.filterMap (s.holdoffOf src sym), x.1 = t.pattern → x.2 = time := by
    intro x hx hp
    obtain ⟨u, -, hu⟩ := List.mem_filterMap.1 hx
    obtain ⟨-, hpu, d', hd', hpolicy', -⟩ := State.holdoffOf_eq_some hu
    rw [← hpu, hp, hd, Option.some.injEq] at hd'
    rw [← hd', hpolicy] at hpolicy'
    exact (Policy.holdoff.inj hpolicy').symm
  have there : ∃ x ∈ s.usedTrackers.filterMap (s.holdoffOf src sym), x.1 = t.pattern :=
    ⟨_, List.mem_filterMap.2 ⟨t, (s.mem_usedTrackers t).2 ⟨i, hi⟩, hstarts⟩, rfl⟩
  exact (foldl_setHoldoff_get _ s.holdoffs same).trans (if_pos there)

/-- Settles O40: each outcome is a branch of the judging, and a holdoff is read from the scan that starts it. -/
theorem trackerJudging : Obligations.TrackerJudging := by
  intro s src sym i t hi
  have after : (s.judgeTrackers src sym).trackers.get i = s.trackerAfter src sym t := by
    rw [State.judgeTrackers_get, hi, Option.bind_some]
  dsimp only
  rw [after]
  refine ⟨State.trackerAfter_untouched, fun d hs hd => ⟨State.trackerAfter_passed hs hd, ?_, ?_, fun hpass hmatch => ?_⟩⟩
  · rintro v rfl hpass hmatch hmore
    exact State.trackerAfter_advanced hs hd hpass hmatch hmore
  · rintro v rfl hpass hmatch hlast
    exact ⟨State.trackerAfter_completed hs hd hpass hmatch hlast, State.completionOf_completed hs hd hpass hmatch hlast⟩
  · exact ⟨State.trackerAfter_mismatched hs hd hpass hmatch, fun time hpolicy =>
      State.judgeTrackers_holdoff hi hd (State.holdoffOf_mismatched hs hd hpass hmatch hpolicy) hpolicy⟩

/-! ### Error symbols (R31, R33) -/

theorem State.completionOf_error (s : State) (src : SourceId) (k : ErrorKind) (t : Tracker) :
    s.completionOf src (.error k) t = none := by
  rw [Option.eq_none_iff_forall_not_mem]
  intro c hc
  obtain ⟨-, -, -, -, d, -, -, hmatch, -⟩ := State.completionOf_eq_some hc
  rw [Definition.matchesStep_error] at hmatch
  cases hmatch

theorem State.reportShort_none (s : State) (src : SourceId) : s.reportShort src none = s := rfl

/-- The arrival of an error symbol is its part 1. -/
theorem State.arrival_error (s : State) (src : SourceId) (k : ErrorKind) :
    s.arrival src (.error k) = s.judgeTrackers src (.error k) := by
  have done : s.usedTrackers.filterMap (s.completionOf src (.error k)) = [] :=
    List.filterMap_eq_nil_iff.2 fun t _ => s.completionOf_error src k t
  unfold State.arrival
  dsimp only
  rw [done, State.starts_error, State.reportShort_none, List.append_nil, State.takeCompletions_nil]

theorem State.trackerAfter_error (s : State) (src : SourceId) (k : ErrorKind) (t : Tracker) :
    s.trackerAfter src (.error k) t =
      (some t).filter fun x => !(decide (x.source = src) && (s.participant src x.pattern).isSome) := by
  by_cases hs : t.source = src
  · cases hd : s.participant src t.pattern with
    | none =>
      rw [State.trackerAfter_untouched (.inr hd)]
      simp [Option.filter, hd]
    | some d =>
      rw [State.trackerAfter_mismatched hs hd (d.passesOver_error k) (d.matchesStep_error _ k)]
      simp [Option.filter, hs, hd]
  · rw [State.trackerAfter_untouched (.inl hs)]
    simp [Option.filter, hs]

/-- Settles O43: an error symbol matches no step and is passed over by no pattern. -/
theorem errorArrival : Obligations.ErrorArrival := by
  intro s src k
  dsimp only
  rw [State.arrival_error]
  refine ⟨rfl, fun i => ?_⟩
  rw [State.judgeTrackers_get]
  cases s.trackers.get i with
  | none => rfl
  | some t => exact s.trackerAfter_error src k t

/-! ### What an arrival does to an entry (R14, R41) -/

@[simp] theorem State.reportShort_patterns (s : State) (src : SourceId) (lost : Option PatternId) :
    (s.reportShort src lost).patterns = s.patterns := by
  rw [State.reportShort_rest]

theorem State.takeCompletions_patterns (s : State) (src : SourceId) (cs : List Completion) :
    (s.takeCompletions src cs).patterns = ((inIndexOrder cs).foldl (State.complete src) s).patterns := by
  unfold State.takeCompletions
  dsimp only
  split <;> rfl

/-- Settles O44: part 3 alone changes entries, and each pattern completes at most once. -/
theorem hitsOnce : Obligations.HitsOnce := by
  intro s src sym _ hpool t p
  obtain ⟨hnodup, hpart⟩ := State.completions_spec hpool src sym
  obtain ⟨cs, hcs⟩ : ∃ cs, cs = s.usedTrackers.filterMap (s.completionOf src sym) ++
    ((s.judgeTrackers src sym).starts (s.usedTrackers.filterMap (s.completionOf src sym)) src sym).completions := ⟨_, rfl⟩
  rw [← hcs] at hnodup hpart
  have after : t.patterns.get p = if ∃ c ∈ inIndexOrder cs, c.pattern = p then (s.patterns.get p).map fun e =>
      { e with hits := countUp e.hits, phase := if e.definition.oneShot = true then .spent else e.phase }
      else s.patterns.get p := by
    change (State.takeCompletions _ src _).patterns.get p = _
    rw [State.takeCompletions_patterns, ← hcs, foldl_complete_patterns _ _ _ _ (inIndexOrder_nodup hnodup),
      State.reportShort_patterns]
    rfl
  rw [after]
  refine ⟨fun hnone => ?_, fun e he => ?_⟩
  · rw [hnone]
    split <;> rfl
  · split
    next hc =>
      obtain ⟨c, hc, rfl⟩ := hc
      obtain ⟨d, hd⟩ := hpart c (mem_inIndexOrder.1 hc)
      obtain ⟨e', he', harmed, -, -, hdef⟩ := State.participant_eq_some.1 hd
      obtain rfl : e = e' := Option.some.inj (he.symm.trans he')
      refine .inr ⟨by rw [hd, hdef], ?_⟩
      rw [he, Option.map_some, harmed]
      congr 2
      unfold countUp
      split <;> simp_all
    next => exact .inl he

end Sys2Proof.Machine
end

section
/-! PROOFS. Part 3 of an arrival as one change of the state (R38 to R42), and the arrival at which one pattern alone takes
part. -/
namespace Sys2Proof.Machine

/-! ### The completions of an arrival, taken (R38 to R42) -/

/-- An entry once counted, retired if one-shot (R14, R41). -/
def Entry.counted (e : Entry) : Entry :=
  { e with
    hits := if e.hits = 65535 then 65535 else e.hits + 1
    phase := if e.definition.oneShot = true then .spent else e.phase }

theorem countUp_eq (c : Half) : countUp c = if c = 65535 then 65535 else c + 1 := by
  unfold countUp
  split
  next h => exact h
  next => rfl

/-- The HIT record of a completion of a pattern with report yes (R39). -/
def hitOffered (src : SourceId) (clock : Word) (q : EventQueue) (x : Definition × Completion) : EventQueue :=
  if x.1.report = true then q.offer clock (hitRecord x.2 x.1 src) else q

/-- The trackers that the retiring of one-shot patterns releases (R41). -/
def retiredBy (xs : List (Definition × Completion)) (u : Tracker) : Bool :=
  xs.any fun x => x.1.oneShot && decide (u.pattern = x.2.pattern)

/-- What the completions of some patterns, taken one after the other, do to the state. -/
def State.hitBy (src : SourceId) (s : State) (xs : List (Definition × Completion)) : State :=
  { s with
    patterns := Table.tabulate fun p =>
      if xs.any (fun x => decide (x.2.pattern = p)) = true then (s.patterns.get p).map Entry.counted else s.patterns.get p
    queue := xs.foldl (hitOffered src s.clock) s.queue
    latchRequests := s.latchRequests ++ xs.flatMap fun x => routeOutputs x.1.route
    trackers := s.trackers.map fun slot => slot.filter fun u => !retiredBy xs u }

/-- The entries of the completions' patterns hold the definitions that go with them. -/
def State.Defines (s : State) (xs : List (Definition × Completion)) : Prop :=
  ∀ x ∈ xs, ∃ e, s.patterns.get x.2.pattern = some e ∧ e.definition = x.1

theorem State.hitBy_entry (src : SourceId) (s : State) (xs : List (Definition × Completion)) (p : PatternId) :
    (s.hitBy src xs).patterns.get p =
      if p ∈ xs.map (fun x => x.2.pattern) then (s.patterns.get p).map Entry.counted else s.patterns.get p := by
  have completed : (xs.any fun x => decide (x.2.pattern = p)) = true ↔ p ∈ xs.map fun x => x.2.pattern := by
    simp [List.any_eq_true]
  simp only [State.hitBy, Table.get_tabulate, completed]

theorem State.hitBy_nil (src : SourceId) (s : State) : s.hitBy src [] = s := by
  have patterns : Table.tabulate s.patterns.get = s.patterns := Table.ext_get fun p => Table.get_tabulate _ p
  have trackers : (s.trackers.map fun slot => slot.filter fun _ => true) = s.trackers :=
    Table.ext_get fun i => by rw [Table.get_map, optionFilter_true]
  simp only [State.hitBy, retiredBy, List.any_nil, Bool.false_eq_true, if_false, List.foldl_nil, List.flatMap_nil,
    List.append_nil, Bool.not_false, patterns, trackers]

/-- One completion (R38 to R41). -/
theorem State.complete_eq_hitBy {s : State} {x : Definition × Completion} (src : SourceId) (h : s.Defines [x]) :
    State.complete src s x.2 = s.hitBy src [x] := by
  obtain ⟨d, c⟩ := x
  obtain ⟨e, he, rfl⟩ : ∃ e, s.patterns.get c.pattern = some e ∧ e.definition = d := h _ (List.mem_singleton_self _)
  have patterns : (State.complete src s c).patterns = (s.hitBy src [(e.definition, c)]).patterns := by
    apply Table.ext_get
    intro p
    simp only [State.complete_patterns, State.hitBy_entry, List.map_cons, List.map_nil, List.mem_singleton, eq_comm (a := p)]
    congr 2
    funext e
    rw [Entry.counted, countUp_eq]
  have trackers : (State.complete src s c).trackers = (s.hitBy src [(e.definition, c)]).trackers := by
    apply Table.ext_get
    intro i
    rw [State.complete_trackers_get, he]
    simp [State.hitBy, retiredBy]
  have rest : State.complete src s c = { s with
      patterns := (State.complete src s c).patterns
      trackers := (State.complete src s c).trackers
      queue := hitOffered src s.clock s.queue (e.definition, c)
      latchRequests := s.latchRequests ++ routeOutputs e.definition.route } := by
    unfold State.complete hitOffered State.offerIf
    rw [he]
    dsimp only
    split <;> split <;> rfl
  rw [rest, patterns, trackers]
  simp only [State.hitBy, List.foldl_cons, List.foldl_nil, List.flatMap_cons, List.flatMap_nil, List.append_nil]

/-- Completions of other patterns, taken after one more. -/
theorem State.hitBy_hitBy {src : SourceId} {s : State} {x : Definition × Completion} {xs : List (Definition × Completion)}
    (hx : x.2.pattern ∉ xs.map fun y => y.2.pattern) : (s.hitBy src [x]).hitBy src xs = s.hitBy src (x :: xs) := by
  have patterns : ((s.hitBy src [x]).hitBy src xs).patterns = (s.hitBy src (x :: xs)).patterns := by
    apply Table.ext_get
    intro p
    rw [State.hitBy_entry, State.hitBy_entry, State.hitBy_entry]
    by_cases hp : p = x.2.pattern
    · subst hp
      simp [hx]
    · have first : p ∉ [x].map fun y => y.2.pattern := by simpa using hp
      rw [if_neg first]
      exact (ite_eq_of_iff (List.mem_cons.trans (or_iff_right hp))).symm
  have trackers : ((s.hitBy src [x]).hitBy src xs).trackers = (s.hitBy src (x :: xs)).trackers := by
    apply Table.ext_get
    intro i
    simp only [State.hitBy, retiredBy, Table.get_map, Option.filter_filter, List.any_cons, List.any_nil, Bool.or_false,
      Bool.not_or]
  have rest : (s.hitBy src [x]).hitBy src xs = { s.hitBy src (x :: xs) with
      patterns := ((s.hitBy src [x]).hitBy src xs).patterns
      trackers := ((s.hitBy src [x]).hitBy src xs).trackers } := by
    simp only [State.hitBy, List.foldl_cons, List.foldl_nil, List.flatMap_cons, List.flatMap_nil, List.append_nil,
      List.append_assoc]
  rw [rest, patterns, trackers]

theorem State.Defines.hitBy {src : SourceId} {s : State} {x : Definition × Completion} {xs : List (Definition × Completion)}
    (h : s.Defines (x :: xs)) : (s.hitBy src [x]).Defines xs := by
  intro y hy
  obtain ⟨e, he, hd⟩ := h y (List.mem_cons_of_mem _ hy)
  simp only [State.hitBy, Table.get_tabulate, he, Option.map_some]
  split
  · exact ⟨e.counted, rfl, hd⟩
  · exact ⟨e, rfl, hd⟩

/-- Completions of different patterns, one after the other (R38). -/
theorem State.foldl_complete {src : SourceId} {xs : List (Definition × Completion)} {s : State} (h : s.Defines xs)
    (hn : (xs.map fun x => x.2.pattern).Nodup) : (xs.map Prod.snd).foldl (State.complete src) s = s.hitBy src xs := by
  induction xs generalizing s with
  | nil => exact (State.hitBy_nil src s).symm
  | cons x xs ih =>
    rw [List.map_cons, List.nodup_cons] at hn
    have first : s.Defines [x] := fun y hy => h y (by rw [List.mem_singleton.1 hy]; exact List.mem_cons_self)
    rw [List.map_cons, List.foldl_cons, State.complete_eq_hitBy src first, ih h.hitBy hn.2, State.hitBy_hitBy hn.1]

theorem State.consumes_eq {s : State} {xs : List (Definition × Completion)} {cs : List Completion} (h : s.Defines xs)
    (hcs : ∀ c, c ∈ cs ↔ c ∈ xs.map Prod.snd) : s.consumes cs = xs.any fun x => x.1.consume := by
  rw [Bool.eq_iff_iff]
  unfold State.consumes
  simp only [List.any_eq_true]
  constructor
  · rintro ⟨c, hc, hconsume⟩
    obtain ⟨x, hx, rfl⟩ := List.mem_map.1 ((hcs c).1 hc)
    obtain ⟨e, he, hd⟩ := h x hx
    rw [he] at hconsume
    exact ⟨x, hx, hd ▸ hconsume⟩
  · rintro ⟨x, hx, hconsume⟩
    obtain ⟨e, he, hd⟩ := h x hx
    refine ⟨x.2, (hcs _).2 (List.mem_map_of_mem hx), ?_⟩
    rw [he]
    change e.definition.consume = true
    rw [hd]
    exact hconsume

/-- What part 3 leaves of the trackers (R41, R42). -/
def releasedBy (src : SourceId) (xs : List (Definition × Completion)) (u : Tracker) : Bool :=
  xs.any fun x => (x.1.oneShot && decide (u.pattern = x.2.pattern)) || (x.1.consume && decide (u.source = src))

theorem releasedBy_eq (src : SourceId) (xs : List (Definition × Completion)) (u : Tracker) :
    releasedBy src xs u = (retiredBy xs u || ((xs.any fun x => x.1.consume) && decide (u.source = src))) := by
  unfold releasedBy retiredBy
  induction xs with
  | nil => rfl
  | cons x xs ih =>
    simp only [List.any_cons, ih]
    cases x.1.oneShot && decide (u.pattern = x.2.pattern) <;> cases x.1.consume <;> cases decide (u.source = src) <;> simp

/-- Part 3, whole (R38 to R42). -/
theorem State.takeCompletions_eq {src : SourceId} {s : State} {xs : List (Definition × Completion)} {cs : List Completion}
    (hcs : inIndexOrder cs = xs.map Prod.snd) (h : s.Defines xs) (hn : (xs.map fun x => x.2.pattern).Nodup) :
    s.takeCompletions src cs = { s.hitBy src xs with
      trackers := s.trackers.map fun slot => slot.filter fun u => !releasedBy src xs u } := by
  have consumes : s.consumes cs = xs.any fun x => x.1.consume :=
    State.consumes_eq h fun c => by rw [← hcs, mem_inIndexOrder]
  unfold State.takeCompletions
  simp only [hcs, State.foldl_complete h hn, consumes, releasedBy_eq]
  split
  next hconsume =>
    have trackers : ((s.hitBy src xs).trackers.map fun slot => slot.filter fun u => !decide (u.source = src)) =
        s.trackers.map fun slot => slot.filter fun u => !(retiredBy xs u || (true && decide (u.source = src))) := by
      apply Table.ext_get
      intro i
      simp only [State.hitBy, Table.get_map, Option.filter_filter, Bool.not_or, Bool.true_and, Bool.and_comm]
    rw [hconsume, ← trackers]
    rfl
  next hconsume =>
    rw [Bool.not_eq_true] at hconsume
    simp only [hconsume, Bool.false_and, Bool.or_false]
    rfl

/-- One completion alone, taken. -/
theorem State.takeCompletions_one {s : State} {c : Completion} {e : Entry} (src : SourceId)
    (he : s.patterns.get c.pattern = some e) :
    s.takeCompletions src [c] = { s with
      patterns := s.patterns.set c.pattern (some e.counted)
      queue := hitOffered src s.clock s.queue (e.definition, c)
      latchRequests := s.latchRequests ++ routeOutputs e.definition.route
      trackers := s.trackers.map fun slot => slot.filter fun u =>
        !(e.definition.oneShot && decide (u.pattern = c.pattern)) && !(e.definition.consume && decide (u.source = src)) } := by
  have defines : s.Defines [(e.definition, c)] := fun x hx => by
    rw [List.mem_singleton.1 hx]
    exact ⟨e, he, rfl⟩
  have patterns : (s.hitBy src [(e.definition, c)]).patterns = s.patterns.set c.pattern (some e.counted) := by
    apply Table.ext_get
    intro p
    rw [State.hitBy_entry, Table.get_set]
    by_cases hp : c.pattern = p
    · subst hp
      simp [he]
    · simp [hp, Ne.symm hp]
  rw [State.takeCompletions_eq (inIndexOrder_singleton c) defines (List.pairwise_singleton ..), ← patterns]
  simp only [State.hitBy, releasedBy, List.any_cons, List.any_nil, Bool.or_false, Bool.not_or, List.foldl_cons,
    List.foldl_nil, List.flatMap_cons, List.flatMap_nil, List.append_nil]

/-! ### The conditions of a start (R33 to R37) -/

theorem freeTracker_eq_some {ts : Table (Option Tracker) 24} {i : TrackerId} (hi : ts.get i = none)
    (hlow : ∀ j < i, ts.get j ≠ none) : freeTracker ts = some i := by
  cases hf : freeTracker ts with
  | none => exact absurd (by simpa using hi) (List.find?_eq_none.1 hf i (List.mem_finRange i))
  | some k =>
    obtain ⟨hk, hkl⟩ := freeTracker_spec hf
    rcases Nat.lt_trichotomy k.val i.val with h | h | h
    · exact absurd hk (hlow k h)
    · exact congrArg some (Fin.ext h)
    · have hused := hkl i h
      rw [hi] at hused
      cases hused

theorem freeTracker_eq_none {ts : Table (Option Tracker) 24} (h : ∀ i, ts.get i ≠ none) : freeTracker ts = none :=
  List.find?_eq_none.2 fun i _ hi => h i (by simpa using hi)

/-- Pattern `p` has no tracker on the source. -/
def Untracked (ts : Table (Option Tracker) 24) (p : PatternId) (src : SourceId) : Prop :=
  ∀ i, ∀ u ∈ ts.get i, ¬(u.pattern = p ∧ u.source = src)

theorem hasTracker_eq_false (ts : Table (Option Tracker) 24) (p : PatternId) (src : SourceId) :
    hasTracker ts p src = false ↔ Untracked ts p src := by
  rw [Bool.eq_false_iff, ne_eq, hasTracker_iff]
  constructor
  · exact fun h i u hu hps => h ⟨i, u, hu, hps⟩
  · rintro h ⟨i, u, hu, hps⟩
    exact h i u hu hps

/-- The conditions of R33. -/
theorem State.mayStart_iff (s : State) (a : Starts) (done : List Completion) (p : PatternId) (d : Definition) (src : SourceId)
    (v : Byte) : s.mayStart a done p d src v = true ↔
      Untracked a.trackers p src ∧ (∀ c ∈ done, c.pattern ≠ p) ∧ (s.holdoffs.get p).get src = none ∧
        d.passesOver (.value v) = false ∧ d.matchesStep 0 (.value v) = true := by
  unfold State.mayStart
  simp only [Bool.and_eq_true, Bool.not_eq_true', hasTracker_eq_false, List.any_eq_false, decide_eq_true_eq, and_assoc]

section
variable {s : State} {done : List Completion} {src : SourceId} {v : Byte} {a : Starts} {p : PatternId} {d : Definition}

theorem State.considerStart_refused (hd : s.participant src p = some d) (hmay : ¬s.mayStart a done p d src v = true) :
    s.considerStart done src v a p = a := by
  unfold State.considerStart
  simp only [hd, hmay, Bool.false_eq_true, if_false]

theorem State.considerStart_started (hd : s.participant src p = some d) (hmay : s.mayStart a done p d src v = true) :
    s.considerStart done src v a p = a.start p d src v s.clock := by
  unfold State.considerStart
  simp only [hd, hmay, if_true]

end

/-! ### One pattern alone takes part -/

theorem State.completionOf_untouched {s : State} {src : SourceId} {sym : Symbol} {t : Tracker}
    (h : t.source ≠ src ∨ s.participant src t.pattern = none) : s.completionOf src sym t = none := by
  unfold State.completionOf
  rw [State.verdict_none h]

/-- An arrival by its three parts (R28). -/
theorem State.arrival_eq {s judged : State} {src : SourceId} {sym : Symbol} {done : List Completion} {st : Starts}
    (hdone : s.usedTrackers.filterMap (s.completionOf src sym) = done) (hjudged : s.judgeTrackers src sym = judged)
    (hstarts : judged.starts done src sym = st) :
    s.arrival src sym = (({ judged with trackers := st.trackers }).reportShort src st.firstLost).takeCompletions src
      (done ++ st.completions) := by
  subst hdone hjudged hstarts
  rfl

/-- An arrival at which part 1 judges no tracker. -/
theorem State.arrival_unjudged {s : State} {src : SourceId} {sym : Symbol}
    (h : ∀ i, ∀ t ∈ s.trackers.get i, t.source ≠ src ∨ s.participant src t.pattern = none) :
    s.arrival src sym =
      (({ s with trackers := (s.starts [] src sym).trackers }).reportShort src (s.starts [] src sym).firstLost).takeCompletions
        src (s.starts [] src sym).completions := by
  have done : s.usedTrackers.filterMap (s.completionOf src sym) = [] := by
    refine List.filterMap_eq_nil_iff.2 fun t ht => ?_
    obtain ⟨i, hi⟩ := (s.mem_usedTrackers t).1 ht
    exact State.completionOf_untouched (h i t hi)
  exact State.arrival_eq done (State.judgeTrackers_none h) rfl

section
variable {s : State} {src : SourceId} {v : Byte} {p : PatternId} {e : Entry}

/-- The start of a pattern that alone takes part and has no tracker (R33). -/
theorem State.arrival_lone_start (hd : s.participant src p = some e.definition)
    (hlone : ∀ p', p' ≠ p → s.participant src p' = none) (huntracked : Untracked s.trackers p src)
    (hholdoff : (s.holdoffs.get p).get src = none) (hpass : e.definition.passesOver (.value v) = false)
    (hmatch : e.definition.matchesStep 0 (.value v) = true) {a : Starts}
    (ha : a = Starts.start { trackers := s.trackers, completions := [], firstLost := none } p e.definition src v s.clock) :
    s.arrival src (.value v) =
      (({ s with trackers := a.trackers }).reportShort src a.firstLost).takeCompletions src a.completions := by
  have unjudged : ∀ i, ∀ t ∈ s.trackers.get i, t.source ≠ src ∨ s.participant src t.pattern = none := by
    intro i t ht
    by_cases hp : t.pattern = p
    · exact .inl fun hs => huntracked i t ht ⟨hp, hs⟩
    · exact .inr (hlone _ hp)
  have starts : s.starts [] src (.value v) = a := by
    rw [State.starts_lone hlone, ha]
    exact State.considerStart_started hd
      ((s.mayStart_iff _ [] p e.definition src v).2 ⟨huntracked, by simp, hholdoff, hpass, hmatch⟩)
  rw [State.arrival_unjudged unjudged, starts]

end

/-- The list of what a function gives on a list where it gives something at one member alone. -/
theorem filterMap_only {α β : Type} {f : α → Option β} {a : α} {l : List α} (hn : l.Nodup) (ha : a ∈ l)
    (hf : ∀ b ∈ l, b ≠ a → f b = none) : l.filterMap f = (f a).toList := by
  induction l with
  | nil => cases ha
  | cons b l ih =>
    obtain ⟨hb, hn⟩ := List.nodup_cons.1 hn
    by_cases hba : b = a
    · subst hba
      have rest : l.filterMap f = [] := List.filterMap_eq_nil_iff.2 fun c hc =>
        hf c (List.mem_cons_of_mem _ hc) (fun e => hb (e ▸ hc))
      cases hfb : f b with
      | none => rw [List.filterMap_cons_none hfb, rest]; rfl
      | some y => rw [List.filterMap_cons_some hfb, rest]; rfl
    · rw [List.filterMap_cons_none (hf b List.mem_cons_self hba)]
      exact ih hn ((List.mem_cons.1 ha).resolve_left (Ne.symm hba)) fun c hc => hf c (List.mem_cons_of_mem _ hc)

/-- Part 1's completions, in tracker id order. -/
theorem State.done_eq (s : State) (src : SourceId) (sym : Symbol) :
    s.usedTrackers.filterMap (s.completionOf src sym) =
      (List.finRange 24).filterMap fun i => (s.trackers.get i).bind (s.completionOf src sym) := by
  unfold State.usedTrackers
  rw [Table.rows_eq, List.filterMap_map, List.filterMap_filterMap]
  rfl

section
variable {s : State} {src : SourceId} {v : Byte} {i : TrackerId} {t : Tracker} {e : Entry}

/-- Part 1 where one tracker is judged, and completes. -/
theorem State.judgeTrackers_lone (hi : s.trackers.get i = some t) (hs : t.source = src)
    (hd : s.participant src t.pattern = some e.definition)
    (hother : ∀ j, j ≠ i → ∀ u ∈ s.trackers.get j, u.source ≠ src ∨ s.participant src u.pattern = none)
    (hpass : e.definition.passesOver (.value v) = false) (hmatch : e.definition.matchesStep t.next (.value v) = true)
    (hlast : t.next + 1 = e.definition.steps.length) :
    s.judgeTrackers src (.value v) = { s with trackers := s.trackers.set i none } := by
  have trackers : (s.judgeTrackers src (.value v)).trackers = s.trackers.set i none := by
    apply Table.ext_get
    intro j
    rw [State.judgeTrackers_get, Table.get_set]
    by_cases hij : i = j
    · subst hij
      rw [if_pos rfl, hi]
      exact State.trackerAfter_completed hs hd hpass hmatch hlast
    · rw [if_neg hij]
      cases hj : s.trackers.get j with
      | none => rfl
      | some u => exact State.trackerAfter_untouched (hother j (Ne.symm hij) u hj)
  have holdoffs : s.usedTrackers.filterMap (s.holdoffOf src (.value v)) = [] := by
    refine List.filterMap_eq_nil_iff.2 fun u hu => Option.eq_none_iff_forall_not_mem.2 fun x hx => ?_
    obtain ⟨j, hj⟩ := (s.mem_usedTrackers u).1 hu
    obtain ⟨hus, -, d, hud, -, -, hmis⟩ := State.holdoffOf_eq_some hx
    by_cases hij : j = i
    · subst hij
      obtain rfl : t = u := Option.some.inj (hi.symm.trans hj)
      obtain rfl : e.definition = d := Option.some.inj (hd.symm.trans hud)
      rw [hmatch] at hmis
      cases hmis
    · rcases hother j hij u hj with h | h
      · exact h hus
      · rw [hud] at h
        cases h
  rw [← trackers]
  unfold State.judgeTrackers
  rw [holdoffs]
  rfl

/-- The last step of the one tracker of a pattern that alone takes part (R30, R33). -/
theorem State.arrival_lone_end (hi : s.trackers.get i = some t) (hs : t.source = src)
    (hd : s.participant src t.pattern = some e.definition) (hlone : ∀ p', p' ≠ t.pattern → s.participant src p' = none)
    (hother : ∀ j, j ≠ i → ∀ u ∈ s.trackers.get j, ¬(u.pattern = t.pattern ∧ u.source = src))
    (hpass : e.definition.passesOver (.value v) = false) (hmatch : e.definition.matchesStep t.next (.value v) = true)
    (hlast : t.next + 1 = e.definition.steps.length) :
    s.arrival src (.value v) = ({ s with trackers := s.trackers.set i none }).takeCompletions src
      [{ pattern := t.pattern, start := t.start, captured := t.captured.map fun vs => vs ++ [v] }] := by
  have untouched : ∀ j, j ≠ i → ∀ u ∈ s.trackers.get j, u.source ≠ src ∨ s.participant src u.pattern = none := by
    intro j hj u hu
    by_cases hp : u.pattern = t.pattern
    · exact .inl fun hus => hother j hj u hu ⟨hp, hus⟩
    · exact .inr (hlone _ hp)
  have done : s.usedTrackers.filterMap (s.completionOf src (.value v)) =
      [{ pattern := t.pattern, start := t.start, captured := t.captured.map fun vs => vs ++ [v] }] := by
    rw [State.done_eq, filterMap_only (List.nodup_finRange 24) (List.mem_finRange i), hi, Option.bind_some,
      State.completionOf_completed hs hd hpass hmatch hlast]
    · rfl
    · intro j _ hj
      rw [Option.bind_eq_none_iff]
      exact fun u hu => State.completionOf_untouched (untouched j hj u hu)
  have judged := State.judgeTrackers_lone hi hs hd untouched hpass hmatch hlast
  have starts : ({ s with trackers := s.trackers.set i none } : State).starts
      [{ pattern := t.pattern, start := t.start, captured := t.captured.map fun vs => vs ++ [v] }] src (.value v) =
      { trackers := s.trackers.set i none, completions := [], firstLost := none } := by
    have part (p : PatternId) := State.participant_congr (s := s)
      (t := { s with trackers := s.trackers.set i none }) rfl rfl src p
    rw [State.starts_lone fun p hp => (part p).trans (hlone p hp)]
    refine State.considerStart_refused ((part t.pattern).trans hd) fun hmay => ?_
    obtain ⟨-, hdone, -⟩ := (State.mayStart_iff ..).1 hmay
    exact hdone _ (List.mem_singleton_self _) rfl
  exact State.arrival_eq done judged starts

end

/-- Settles O41: the scan comes to one pattern alone, and its completion is the only one taken. -/
theorem lonePattern : Obligations.LonePattern := by
  refine ⟨fun s src v p e he => ?_, fun s src v i t e hi hs he => ?_⟩
  · intro d hd hlone huntracked hholdoff hpass hmatch
    have start := fun a ha => State.arrival_lone_start (a := a) hd hlone huntracked hholdoff hpass hmatch ha
    refine ⟨fun hsteps i hi hlow => ?_, fun hsteps hfull => ?_, fun hstep => ?_⟩
    · rw [start {
        trackers := s.trackers.set i (some (claimedTracker p d src v s.clock)), completions := [], firstLost := none }]
      · exact State.takeCompletions_nil _ src
      · simp only [Starts.start, d, if_neg hsteps, freeTracker_eq_some hi hlow]
    · rw [start { trackers := s.trackers, completions := [], firstLost := some p }]
      · rw [State.takeCompletions_nil]
        simp only [State.reportShort, EventQueue.accepts_iff]
        split
        · rfl
        · split <;> rfl
      · simp only [Starts.start, d, if_neg hsteps, freeTracker_eq_none hfull]
    · rw [start { trackers := s.trackers, firstLost := none, completions :=
        [{ pattern := p, start := s.clock, captured := if d.capture = true then some [v] else none }] }]
      · rw [State.reportShort_none, State.takeCompletions_one src he]
        simp only [hitOffered, hitRecord]
        rw [hstep]
        rfl
      · simp only [Starts.start, d, if_pos hstep, List.nil_append]
  · intro d hd hlone hother hpass hmatch hlast
    rw [State.arrival_lone_end hi hs hd hlone hother hpass hmatch hlast, State.takeCompletions_one src he]
    rfl

end Sys2Proof.Machine
end

section
/-! PROOFS. The arrival of a value with any number of patterns (R28 to R43): what the scan of part 2 has done after some
pattern indices, the completions in index order, and the state that the three parts leave. -/
namespace Sys2Proof.Machine

/-! ### The free trackers, and what is claimed of them (R24, R35, R36) -/

/-- The ids of the free trackers, lowest first. -/
def freeIds (ts : Table (Option Tracker) 24) : List TrackerId := (List.finRange 24).filter fun i => (ts.get i).isNone

theorem mem_freeIds {ts : Table (Option Tracker) 24} {i : TrackerId} : i ∈ freeIds ts ↔ ts.get i = none := by
  simp [freeIds]

theorem freeIds_sorted (ts : Table (Option Tracker) 24) : (freeIds ts).Pairwise (· < ·) :=
  List.Pairwise.filter _ (List.pairwise_lt_finRange 24)

theorem freeIds_nodup (ts : Table (Option Tracker) 24) : (freeIds ts).Nodup := (List.nodup_finRange 24).filter _

/-- A completion of a one-step pattern at its start (R34). -/
def oneStepCompletion (v : Byte) (clock : Word) (p : PatternId) (d : Definition) : Completion :=
  { pattern := p, start := clock, captured := if d.capture = true then some [v] else none }

/-- What part 2 has gathered when the patterns `long`, of two or more steps, and `short`, of one step, have been started. -/
def Starts.after (ts : Table (Option Tracker) 24) (src : SourceId) (v : Byte) (clock : Word)
    (long short : List (PatternId × Definition)) : Starts where
  trackers := Table.tabulate fun i =>
    if i ∈ freeIds ts then (long[(freeIds ts).idxOf i]?).map fun x => claimedTracker x.1 x.2 src v clock else ts.get i
  completions := short.map fun x => oneStepCompletion v clock x.1 x.2
  firstLost := (long[(freeIds ts).length]?).map Prod.fst

section
variable {ts : Table (Option Tracker) 24} {src : SourceId} {v : Byte} {clock : Word} {long short : List (PatternId × Definition)}

theorem Starts.after_get_free {i : TrackerId} (hi : i ∈ freeIds ts) : (Starts.after ts src v clock long short).trackers.get i =
    (long[(freeIds ts).idxOf i]?).map fun x => claimedTracker x.1 x.2 src v clock := by
  simp only [Starts.after, Table.get_tabulate, hi, if_true]

theorem Starts.after_get_used {i : TrackerId} (hi : i ∉ freeIds ts) :
    (Starts.after ts src v clock long short).trackers.get i = ts.get i := by
  simp only [Starts.after, Table.get_tabulate, hi, if_false]

theorem Starts.after_nil :
    Starts.after ts src v clock [] [] = { trackers := ts, completions := [], firstLost := none } := by
  have trackers : (Starts.after ts src v clock [] []).trackers = ts := by
    apply Table.ext_get
    intro i
    by_cases hi : i ∈ freeIds ts
    · rw [Starts.after_get_free hi, mem_freeIds.1 hi]
      rfl
    · exact Starts.after_get_used hi
  calc Starts.after ts src v clock [] []
      = { trackers := (Starts.after ts src v clock [] []).trackers, completions := [], firstLost := none } := rfl
    _ = _ := by rw [trackers]

/-- A slot is taken exactly if it was in use before, or its turn has come. -/
theorem Starts.after_get_ne_none {i : TrackerId}
    (h : i ∈ freeIds ts → (freeIds ts).idxOf i < long.length) :
    (Starts.after ts src v clock long short).trackers.get i ≠ none := by
  by_cases hi : i ∈ freeIds ts
  · rw [Starts.after_get_free hi, List.getElem?_eq_getElem (h hi)]
    nofun
  · rw [Starts.after_get_used hi]
    exact fun hn => hi (mem_freeIds.2 hn)

/-- The next start finds the next free tracker. -/
theorem Starts.freeTracker_after :
    freeTracker (Starts.after ts src v clock long short).trackers = (freeIds ts)[long.length]? := by
  by_cases hk : long.length < (freeIds ts).length
  · rw [List.getElem?_eq_getElem hk]
    refine freeTracker_eq_some ?_ fun j hj => Starts.after_get_ne_none fun hfree => ?_
    · rw [Starts.after_get_free (List.getElem_mem hk), (freeIds_nodup ts).idxOf_getElem, List.getElem?_eq_none (Nat.le_refl _)]
      rfl
    · refine Classical.byContradiction fun hle => ?_
      have hidx : (freeIds ts).idxOf j < (freeIds ts).length := List.idxOf_lt_length_iff.2 hfree
      have hget : (freeIds ts)[(freeIds ts).idxOf j] = j := List.getElem_idxOf hidx
      rcases Nat.eq_or_lt_of_le (Nat.not_lt.1 hle) with heq | hlt
      · have : (freeIds ts)[long.length] = j := by simpa only [heq] using hget
        exact absurd hj (by rw [this]; exact Fin.lt_irrefl _)
      · have := List.pairwise_iff_getElem.1 (freeIds_sorted ts) _ _ hk hidx hlt
        rw [hget] at this
        exact absurd hj (Nat.lt_asymm this)
  · rw [List.getElem?_eq_none (Nat.not_lt.1 hk)]
    exact freeTracker_eq_none fun i => Starts.after_get_ne_none fun hfree =>
      Nat.lt_of_lt_of_le (List.idxOf_lt_length_iff.2 hfree) (Nat.not_lt.1 hk)

/-- A one-step pattern is started (R34). -/
theorem Starts.start_short (p : PatternId) {d : Definition} (hd : d.steps.length = 1) :
    (Starts.after ts src v clock long short).start p d src v clock =
      Starts.after ts src v clock long (short ++ [(p, d)]) := by
  rw [Starts.start, if_pos hd]
  simp only [Starts.after, List.map_append, List.map_cons, List.map_nil, oneStepCompletion]

theorem getElem?_concat_of_ne {α : Type} (l : List α) (a : α) {n : Nat} (h : n ≠ l.length) : (l ++ [a])[n]? = l[n]? := by
  rcases Nat.lt_or_gt_of_ne h with hlt | hgt
  · exact List.getElem?_append_left hlt
  · rw [List.getElem?_eq_none (by rw [List.length_append, List.length_singleton]; exact hgt), List.getElem?_eq_none (Nat.le_of_lt hgt)]

/-- A pattern of two or more steps is started: the next free tracker is claimed, or with none left the start is lost
(R35 to R37). -/
theorem Starts.start_long (p : PatternId) {d : Definition} (hd : d.steps.length ≠ 1) :
    (Starts.after ts src v clock long short).start p d src v clock =
      Starts.after ts src v clock (long ++ [(p, d)]) short := by
  rw [Starts.start, if_neg hd, Starts.freeTracker_after]
  by_cases hk : long.length < (freeIds ts).length
  · have trackers : (Starts.after ts src v clock long short).trackers.set (freeIds ts)[long.length]
        (some (claimedTracker p d src v clock)) = (Starts.after ts src v clock (long ++ [(p, d)]) short).trackers := by
      apply Table.ext_get
      intro i
      rw [Table.get_set]
      by_cases hi : i ∈ freeIds ts
      · rw [Starts.after_get_free hi, Starts.after_get_free hi]
        by_cases hturn : (freeIds ts)[long.length] = i
        · subst hturn
          simp [(freeIds_nodup ts).idxOf_getElem]
        · rw [if_neg hturn, getElem?_concat_of_ne]
          intro heq
          exact hturn (by simpa only [heq] using List.getElem_idxOf (List.idxOf_lt_length_iff.2 hi))
      · rw [Starts.after_get_used hi, Starts.after_get_used hi, if_neg]
        rintro rfl
        exact hi (List.getElem_mem hk)
    rw [List.getElem?_eq_getElem hk]
    dsimp only
    rw [trackers]
    simp only [Starts.after, getElem?_concat_of_ne long (p, d) (Nat.ne_of_gt hk)]
  · have trackers : (Starts.after ts src v clock long short).trackers =
        (Starts.after ts src v clock (long ++ [(p, d)]) short).trackers := by
      apply Table.ext_get
      intro i
      by_cases hi : i ∈ freeIds ts
      · have hidx := List.idxOf_lt_length_iff.2 hi
        rw [Starts.after_get_free hi, Starts.after_get_free hi, getElem?_concat_of_ne]
        omega
      · rw [Starts.after_get_used hi, Starts.after_get_used hi]
    rw [List.getElem?_eq_none (Nat.not_lt.1 hk)]
    dsimp only
    rw [trackers]
    have lost : (match (long[(freeIds ts).length]?).map Prod.fst with
        | none => some p
        | some q => some q) = ((long ++ [(p, d)])[(freeIds ts).length]?).map Prod.fst := by
      rcases Nat.eq_or_lt_of_le (Nat.not_lt.1 hk) with heq | hlt
      · rw [heq, List.getElem?_eq_none (Nat.le_refl _), List.getElem?_concat_length]
        rfl
      · rw [getElem?_concat_of_ne _ _ (Nat.ne_of_lt hlt), List.getElem?_eq_getElem hlt]
        rfl
    simp only [Starts.after]
    exact congrArg (Starts.mk _ _) lost

/-- The claims of other patterns give a pattern no tracker. -/
theorem Starts.untracked_after {p : PatternId} (hp : ∀ x ∈ long, x.1 ≠ p) :
    Untracked (Starts.after ts src v clock long short).trackers p src ↔ Untracked ts p src := by
  constructor <;> intro h i u hu
  · refine h i u ?_
    rw [Starts.after_get_used]
    · exact hu
    · intro hi
      rw [mem_freeIds.1 hi] at hu
      cases hu
  · by_cases hi : i ∈ freeIds ts
    · rw [Starts.after_get_free hi] at hu
      obtain ⟨x, hx, rfl⟩ := Option.map_eq_some_iff.1 hu
      exact fun hps => hp x (List.mem_of_getElem? hx) hps.1
    · rw [Starts.after_get_used hi] at hu
      exact h i u hu

end

/-! ### The patterns that an arrival starts (R33) -/

/-- What part 2 begins with. -/
def Starts.none0 (s : State) : Starts := { trackers := s.trackers, completions := [], firstLost := none }

/-- A pattern that part 1 leaves to be started, with the definition by which it takes part. -/
def State.starter (s : State) (done : List Completion) (src : SourceId) (v : Byte) (long : Bool) (p : PatternId) :
    Option (PatternId × Definition) :=
  (s.participant src p).bind fun d =>
    if s.mayStart (Starts.none0 s) done p d src v = true ∧ decide (d.steps.length ≠ 1) = long then some (p, d) else none

theorem State.starter_fst {s : State} {done : List Completion} {src : SourceId} {v : Byte} {long : Bool} {p : PatternId}
    {x : PatternId × Definition} (h : s.starter done src v long p = some x) : x.1 = p := by
  obtain ⟨d, -, hx⟩ := Option.bind_eq_some_iff.1 h
  obtain ⟨-, hx⟩ := Option.ite_none_right_eq_some.1 hx
  cases hx
  rfl

/-- One pattern index of the scan: the conditions of a pattern are those that part 1 leaves, for a claim gives another
pattern's trackers nothing. -/
theorem State.considerStart_after (s : State) (done : List Completion) (src : SourceId) (v : Byte) {l : List PatternId}
    {p : PatternId} (hp : p ∉ l) :
    s.considerStart done src v (Starts.after s.trackers src v s.clock (l.filterMap (s.starter done src v true))
        (l.filterMap (s.starter done src v false))) p =
      Starts.after s.trackers src v s.clock ((l ++ [p]).filterMap (s.starter done src v true))
        ((l ++ [p]).filterMap (s.starter done src v false)) := by
  rw [List.filterMap_append, List.filterMap_append]
  cases hd : s.participant src p with
  | none =>
    have nothing (long : Bool) : [p].filterMap (s.starter done src v long) = [] := by simp [State.starter, hd]
    rw [nothing, nothing, List.append_nil, List.append_nil]
    simp only [State.considerStart, hd]
  | some d =>
    have others : ∀ x ∈ l.filterMap (s.starter done src v true), x.1 ≠ p := by
      rintro x hx rfl
      obtain ⟨q, hq, hx⟩ := List.mem_filterMap.1 hx
      exact hp (State.starter_fst hx ▸ hq)
    have same : s.mayStart (Starts.after s.trackers src v s.clock (l.filterMap (s.starter done src v true))
        (l.filterMap (s.starter done src v false))) done p d src v = s.mayStart (Starts.none0 s) done p d src v := by
      rw [Bool.eq_iff_iff, State.mayStart_iff, State.mayStart_iff, Starts.untracked_after others]
      rfl
    by_cases hmay : s.mayStart (Starts.none0 s) done p d src v = true
    · rw [State.considerStart_started hd (same.trans hmay)]
      by_cases hsteps : d.steps.length = 1
      · have here (long : Bool) : [p].filterMap (s.starter done src v long) = if long = true then [] else [(p, d)] := by
          cases long <;> simp [State.starter, hd, hmay, hsteps]
        rw [Starts.start_short p hsteps, here, here]
        simp
      · have here (long : Bool) : [p].filterMap (s.starter done src v long) = if long = true then [(p, d)] else [] := by
          cases long <;> simp [State.starter, hd, hmay, hsteps]
        rw [Starts.start_long p hsteps, here, here]
        simp
    · have nothing (long : Bool) : [p].filterMap (s.starter done src v long) = [] := by simp [State.starter, hd, hmay]
      rw [State.considerStart_refused hd (fun h => hmay (same.symm.trans h)), nothing, nothing, List.append_nil,
        List.append_nil]

/-- The scan of part 2 over the indices `l`, when those of `m` have been scanned (R33). -/
theorem State.foldl_considerStart (s : State) (done : List Completion) (src : SourceId) (v : Byte) {m l : List PatternId}
    (hn : (m ++ l).Nodup) :
    l.foldl (s.considerStart done src v) (Starts.after s.trackers src v s.clock (m.filterMap (s.starter done src v true))
        (m.filterMap (s.starter done src v false))) =
      Starts.after s.trackers src v s.clock ((m ++ l).filterMap (s.starter done src v true))
        ((m ++ l).filterMap (s.starter done src v false)) := by
  induction l generalizing m with
  | nil => rw [List.foldl_nil, List.append_nil]
  | cons p l ih =>
    have hp : p ∉ m := fun hp => (List.nodup_append.1 hn).2.2 p hp p List.mem_cons_self rfl
    have assoc : m ++ p :: l = m ++ [p] ++ l := by rw [List.append_assoc, List.singleton_append]
    rw [List.foldl_cons, State.considerStart_after s done src v hp, assoc]
    exact ih (assoc ▸ hn)

/-! ### The completions of an arrival in index order (R38) -/

/-- The completion that part 1 brings a pattern (R30). -/
def State.endOf (s : State) (src : SourceId) (v : Byte) (p : PatternId) : Option Completion :=
  (List.finRange 24).findSome? fun i =>
    (s.trackers.get i).bind fun u => if u.pattern = p then s.completionOf src (.value v) u else none

/-- Part 1's completions. -/
abbrev State.ended (s : State) (src : SourceId) (sym : Symbol) : List Completion :=
  s.usedTrackers.filterMap (s.completionOf src sym)

theorem State.find?_ended (s : State) (src : SourceId) (v : Byte) (p : PatternId) :
    (s.ended src (.value v)).find? (fun c => decide (c.pattern = p)) = s.endOf src v p := by
  rw [State.ended, State.done_eq, ← List.head?_filter, List.filter_filterMap, List.head?_filterMap]
  unfold State.endOf
  congr 1
  funext i
  cases s.trackers.get i with
  | none => rfl
  | some u =>
    simp only [Option.bind_some]
    cases hc : s.completionOf src (.value v) u with
    | none => simp
    | some c =>
      obtain ⟨-, hp, -⟩ := State.completionOf_eq_some hc
      simp [Option.filter, hp]

theorem State.endOf_eq_none {s : State} {src : SourceId} {v : Byte} {p : PatternId} :
    s.endOf src v p = none ↔ ∀ c ∈ s.ended src (.value v), c.pattern ≠ p := by
  rw [← State.find?_ended, List.find?_eq_none]
  simp

/-- Part 1 completes patterns that take part. -/
theorem State.endOf_eq_some {s : State} {src : SourceId} {v : Byte} {p : PatternId} {c : Completion}
    (h : s.endOf src v p = some c) : c.pattern = p ∧ ∃ d, s.participant src p = some d := by
  rw [← State.find?_ended] at h
  have hp : c.pattern = p := by simpa using List.find?_some h
  obtain ⟨u, -, hu⟩ := List.mem_filterMap.1 (List.mem_of_find?_eq_some h)
  obtain ⟨-, hpattern, -, -, d, hd, -⟩ := State.completionOf_eq_some hu
  exact ⟨hp, d, by rw [← hp, hpattern]; exact hd⟩

/-- A member of a list that is made number by number, by its number. -/
theorem find?_filterMap_key {α β : Type} [DecidableEq α] {f : α → Option β} {key : β → α}
    (hf : ∀ a b, f a = some b → key b = a) (a : α) (l : List α) :
    (l.filterMap f).find? (fun b => decide (key b = a)) = if a ∈ l then f a else none := by
  induction l with
  | nil => rfl
  | cons c l ih =>
    cases hc : f c with
    | none =>
      rw [List.filterMap_cons_none hc, ih]
      by_cases hca : a = c
      · subst hca
        simp [hc]
      · simp [hca]
    | some b =>
      rw [List.filterMap_cons_some hc, List.find?_cons, hf c b hc]
      by_cases hca : c = a
      · subst hca
        simp [hc]
      · rw [decide_eq_false hca]
        exact ih.trans (ite_eq_of_iff (by simp [Ne.symm hca]))

theorem filter_eq_toList_find? {cs : List Completion} (hn : (cs.map Completion.pattern).Nodup) (p : PatternId) :
    cs.filter (fun c => decide (c.pattern = p)) = (cs.find? fun c => decide (c.pattern = p)).toList := by
  induction cs with
  | nil => rfl
  | cons c cs ih =>
    obtain ⟨hc, hn⟩ := List.nodup_cons.1 hn
    by_cases hp : c.pattern = p
    · have rest : cs.filter (fun c => decide (c.pattern = p)) = [] := by
        refine List.filter_eq_nil_iff.2 fun x hx hxp => hc (List.mem_map.2 ⟨x, hx, ?_⟩)
        exact (of_decide_eq_true hxp).trans hp.symm
      rw [List.filter_cons_of_pos (by simpa using hp), List.find?_cons_of_pos (by simpa using hp), rest]
      rfl
    · rw [List.filter_cons_of_neg (by simpa using hp), List.find?_cons_of_neg (by simpa using hp)]
      exact ih hn

/-- Completions of different patterns in index order: those of each index, one at most. -/
theorem inIndexOrder_eq {cs : List Completion} (hn : (cs.map Completion.pattern).Nodup) :
    inIndexOrder cs = (List.finRange 32).filterMap fun p => cs.find? fun c => decide (c.pattern = p) := by
  unfold inIndexOrder
  induction List.finRange 32 with
  | nil => rfl
  | cons p l ih =>
    rw [List.flatMap_cons, List.filterMap_cons, ih, filter_eq_toList_find? hn p]
    cases cs.find? fun c => decide (c.pattern = p) <;> rfl

/-! ### The arrival of a value, whole -/

/-- Whether an arrival starts a pattern (R33). -/
def State.startsAt (s : State) (src : SourceId) (v : Byte) (p : PatternId) : Bool :=
  (s.participant src p).any fun d =>
    decide (∀ i, ∀ u ∈ (s.judgeTrackers src (.value v)).trackers.get i, ¬(u.pattern = p ∧ u.source = src)) &&
      (s.endOf src v p).isNone && (((s.judgeTrackers src (.value v)).holdoffs.get p).get src).isNone &&
      !d.passesOver (.value v) && d.matchesStep 0 (.value v)

/-- The pattern with its definition, if the arrival starts it and it has two or more steps (`long`), or one. -/
def State.begunAt (s : State) (src : SourceId) (v : Byte) (long : Bool) (p : PatternId) : Option (PatternId × Definition) :=
  (s.participant src p).bind fun d =>
    if s.startsAt src v p = true ∧ decide (d.steps.length ≠ 1) = long then some (p, d) else none

/-- The patterns that the arrival starts, in index order. -/
def State.begun (s : State) (src : SourceId) (v : Byte) (long : Bool) : List (PatternId × Definition) :=
  (List.finRange 32).filterMap (s.begunAt src v long)

/-- What completes of one pattern (R30, R34). -/
def State.completedAt (s : State) (src : SourceId) (v : Byte) (p : PatternId) : Option (Definition × Completion) :=
  (s.participant src p).bind fun d =>
    if (s.endOf src v p).isSome = true then (s.endOf src v p).map fun c => (d, c)
    else if (p, d) ∈ s.begun src v false then some (d, oneStepCompletion v s.clock p d)
    else none

/-- What completes in the arrival, in index order (R38). -/
def State.completed (s : State) (src : SourceId) (v : Byte) : List (Definition × Completion) :=
  (List.finRange 32).filterMap (s.completedAt src v)

theorem State.judgeTrackers_participant (s : State) (src : SourceId) (sym : Symbol) (p : PatternId) :
    (s.judgeTrackers src sym).participant src p = s.participant src p := State.participant_congr rfl rfl src p

section
variable {s : State} {src : SourceId} {v : Byte}

theorem State.startsAt_iff {p : PatternId} {d : Definition} (hd : s.participant src p = some d) :
    s.startsAt src v p = true ↔ (s.judgeTrackers src (.value v)).mayStart (Starts.none0 (s.judgeTrackers src (.value v)))
      (s.ended src (.value v)) p d src v = true := by
  rw [State.mayStart_iff, ← State.endOf_eq_none, State.startsAt, hd, Option.any_some]
  simp only [Bool.and_eq_true, Bool.not_eq_true', Option.isNone_iff_eq_none, decide_eq_true_iff, and_assoc]
  rfl

theorem State.starter_eq (long : Bool) :
    (s.judgeTrackers src (.value v)).starter (s.ended src (.value v)) src v long = s.begunAt src v long := by
  funext p
  unfold State.starter State.begunAt
  rw [State.judgeTrackers_participant]
  cases hd : s.participant src p with
  | none => rfl
  | some d => exact ite_eq_of_iff (and_congr_left' (State.startsAt_iff hd).symm)

/-- Part 2 of the arrival (R33 to R37). -/
theorem State.starts_value : (s.judgeTrackers src (.value v)).starts (s.ended src (.value v)) src (.value v) =
    Starts.after (s.judgeTrackers src (.value v)).trackers src v s.clock (s.begun src v true) (s.begun src v false) := by
  have scan := (s.judgeTrackers src (.value v)).foldl_considerStart (s.ended src (.value v)) src v (m := [])
    (List.nodup_finRange 32)
  rw [State.starter_eq, State.starter_eq, List.filterMap_nil, List.filterMap_nil, Starts.after_nil] at scan
  exact scan

theorem State.begunAt_fst {long : Bool} {p : PatternId} {x : PatternId × Definition} (h : s.begunAt src v long p = some x) :
    x.1 = p := by
  rw [← State.starter_eq] at h
  exact State.starter_fst h

theorem State.begunAt_eq {long : Bool} {p : PatternId} {d : Definition} {x : PatternId × Definition}
    (hd : s.participant src p = some d) (h : s.begunAt src v long p = some x) : x = (p, d) := by
  obtain ⟨d', hd', hx⟩ := Option.bind_eq_some_iff.1 h
  obtain rfl : d = d' := Option.some.inj (hd.symm.trans hd')
  exact (Option.some.inj (Option.ite_none_right_eq_some.1 hx).2).symm

theorem State.mem_begun {long : Bool} {p : PatternId} {d : Definition} :
    (p, d) ∈ s.begun src v long ↔ s.begunAt src v long p = some (p, d) := by
  unfold State.begun
  rw [List.mem_filterMap]
  constructor
  · rintro ⟨q, -, hq⟩
    obtain rfl : p = q := State.begunAt_fst hq
    exact hq
  · exact fun h => ⟨p, List.mem_finRange p, h⟩

/-- The completion of one pattern index, whichever part of the arrival brings it. -/
theorem State.find?_completions (p : PatternId) :
    ((s.ended src (.value v) ++ (s.begun src v false).map fun x => oneStepCompletion v s.clock x.1 x.2).find?
      fun c => decide (c.pattern = p)) = (s.completedAt src v p).map Prod.snd := by
  have short : ((s.begun src v false).map fun x => oneStepCompletion v s.clock x.1 x.2).find?
      (fun c => decide (c.pattern = p)) = (s.begunAt src v false p).map fun x => oneStepCompletion v s.clock x.1 x.2 := by
    have key := find?_filterMap_key (key := Prod.fst) (fun q x h => State.begunAt_fst (s := s) (src := src) (v := v)
      (long := false) (p := q) (x := x) h) p (List.finRange 32)
    rw [if_pos (List.mem_finRange p)] at key
    rw [List.find?_map, ← key]
    rfl
  rw [List.find?_append, State.find?_ended, short]
  unfold State.completedAt
  cases hd : s.participant src p with
  | none =>
    have ends : s.endOf src v p = none := by
      rw [Option.eq_none_iff_forall_not_mem]
      intro c hc
      obtain ⟨-, d, h⟩ := State.endOf_eq_some hc
      rw [hd] at h
      cases h
    simp [ends, State.begunAt, hd]
  | some d =>
    rw [Option.bind_some]
    cases hc : s.endOf src v p with
    | some c => rfl
    | none =>
      rw [if_neg (by simp), Option.none_or]
      by_cases hmem : (p, d) ∈ s.begun src v false
      · rw [if_pos hmem, State.mem_begun.1 hmem]
        rfl
      · have hb : s.begunAt src v false p = none := by
          rw [Option.eq_none_iff_forall_not_mem]
          intro x hx
          obtain rfl : x = (p, d) := State.begunAt_eq hd hx
          exact hmem (State.mem_begun.2 hx)
        rw [if_neg hmem, hb]
        rfl

theorem State.completions_nodup (hpool : s.PoolOk) : ((s.ended src (.value v) ++
    (s.begun src v false).map fun x => oneStepCompletion v s.clock x.1 x.2).map Completion.pattern).Nodup := by
  obtain ⟨hn, -⟩ := State.completions_spec hpool src (.value v)
  rw [State.starts_value] at hn
  exact hn

/-- The completions of part 1 and of one-step starts, in index order (R38). -/
theorem State.inIndexOrder_completions (hpool : s.PoolOk) :
    inIndexOrder (s.ended src (.value v) ++ (s.begun src v false).map fun x => oneStepCompletion v s.clock x.1 x.2) =
        (s.completed src v).map Prod.snd ∧
      ((s.completed src v).map fun x => x.2.pattern).Nodup := by
  have hn := State.completions_nodup (src := src) (v := v) hpool
  have order : inIndexOrder (s.ended src (.value v) ++
      (s.begun src v false).map fun x => oneStepCompletion v s.clock x.1 x.2) = (s.completed src v).map Prod.snd := by
    rw [inIndexOrder_eq hn, State.completed, List.map_filterMap]
    congr 1
    funext p
    exact State.find?_completions p
  refine ⟨order, ?_⟩
  have nodup := inIndexOrder_nodup hn
  rw [order, List.map_map] at nodup
  exact nodup

theorem State.defines_completed : s.Defines (s.completed src v) := by
  intro x hx
  obtain ⟨p, -, hp⟩ := List.mem_filterMap.1 hx
  obtain ⟨d, hd, hx⟩ := Option.bind_eq_some_iff.1 hp
  obtain ⟨e, he, -, -, -, hdef⟩ := State.participant_eq_some.1 hd
  have hpattern : x.2.pattern = p ∧ x.1 = d := by
    split at hx
    · obtain ⟨c, hc, rfl⟩ := Option.map_eq_some_iff.1 hx
      exact ⟨(State.endOf_eq_some hc).1, rfl⟩
    · obtain ⟨-, hx⟩ := Option.ite_none_right_eq_some.1 hx
      cases hx
      exact ⟨rfl, rfl⟩
  exact ⟨e, by rw [hpattern.1, he], by rw [hpattern.2, hdef]⟩

end

/-- The start that is reported as lost, if its source's short-report flag is clear (R37). -/
def State.shortOf (s : State) (src : SourceId) (lost : Option PatternId) : Option PatternId :=
  if s.shortFlags.get src = true then none else lost

/-- The report of a lost start (R37). -/
theorem State.reportShort_eq (s : State) (src : SourceId) (lost : Option PatternId) :
    s.reportShort src lost = { s with
      queue := match s.shortOf src lost with
        | some p => s.queue.offer s.clock (.trackerShort src p)
        | none => s.queue
      shortFlags := if (s.shortOf src lost).isSome = true ∧ s.queue.ordinaryCount < 63 ∧ s.queue.lost = 0 then
        s.shortFlags.set src true else s.shortFlags } := by
  unfold State.reportShort State.shortOf
  by_cases hflag : s.shortFlags.get src = true
  · cases lost <;> simp only [hflag, if_true] <;> rfl
  · cases lost with
    | none =>
      simp only [hflag, Bool.false_eq_true, if_false]
      rfl
    | some p =>
      simp only [hflag, Bool.false_eq_true, if_false, EventQueue.accepts_iff, Option.isSome_some, true_and]
      rfl

/-- What part 2 of the arrival leaves (R33 to R37). -/
abbrev State.begins (s : State) (src : SourceId) (v : Byte) : Starts :=
  Starts.after (s.judgeTrackers src (.value v)).trackers src v s.clock (s.begun src v true) (s.begun src v false)

/-- The state with which part 3 of the arrival begins. -/
def State.started (s : State) (src : SourceId) (v : Byte) : State :=
  ({ s.judgeTrackers src (.value v) with trackers := (s.begins src v).trackers }).reportShort src (s.begins src v).firstLost

theorem State.started_eq (s : State) (src : SourceId) (v : Byte) :
    s.started src v = { s with
      trackers := (s.begins src v).trackers
      holdoffs := (s.judgeTrackers src (.value v)).holdoffs
      queue := match s.shortOf src (s.begins src v).firstLost with
        | some p => s.queue.offer s.clock (.trackerShort src p)
        | none => s.queue
      shortFlags := if (s.shortOf src (s.begins src v).firstLost).isSome = true ∧ s.queue.ordinaryCount < 63 ∧
          s.queue.lost = 0 then s.shortFlags.set src true else s.shortFlags } :=
  State.reportShort_eq _ src _

/-- The arrival of a value by its three parts (R28). -/
theorem State.arrival_value {s : State} (src : SourceId) (v : Byte) (hpool : s.PoolOk) :
    s.arrival src (.value v) = { (s.started src v).hitBy src (s.completed src v) with
      trackers := (s.begins src v).trackers.map fun slot => slot.filter fun u => !releasedBy src (s.completed src v) u } := by
  obtain ⟨order, nodup⟩ := State.inIndexOrder_completions (src := src) (v := v) hpool
  have parts : s.arrival src (.value v) = (s.started src v).takeCompletions src
      (s.ended src (.value v) ++ (s.begun src v false).map fun x => oneStepCompletion v s.clock x.1 x.2) :=
    State.arrival_eq rfl rfl State.starts_value
  have defines : (s.started src v).Defines (s.completed src v) := by
    rw [State.started_eq]
    exact State.defines_completed
  rw [parts, State.takeCompletions_eq order defines nodup, State.started_eq]

/-- A holdoff that no mismatch starts stays (R32). -/
theorem State.judgeTrackers_holdoff_kept {s : State} {src c : SourceId} {sym : Symbol} {p : PatternId}
    (h : c ≠ src ∨ ∀ i, ∀ u ∈ s.trackers.get i, u.pattern = p → u.source = src → ∀ d ∈ s.participant src p,
      d.policy = .restart ∨ d.passesOver sym = true ∨ d.matchesStep u.next sym = true) :
    ((s.judgeTrackers src sym).holdoffs.get p).get c = (s.holdoffs.get p).get c := by
  refine foldl_setHoldoff_get_other _ _ (h.imp Ne.symm fun h x hx hp => ?_)
  obtain ⟨u, hu, hx⟩ := List.mem_filterMap.1 hx
  obtain ⟨i, hi⟩ := (s.mem_usedTrackers u).1 hu
  obtain ⟨hs, hup, d, hd, hpolicy, hpass, hmatch⟩ := State.holdoffOf_eq_some hx
  obtain rfl : u.pattern = p := hup.symm.trans hp
  rcases h i u hi rfl hs d hd with h | h | h
  · rw [hpolicy] at h
    cases h
  · rw [hpass] at h
    cases h
  · rw [hmatch] at h
    cases h

/-- Settles O42: the scan claims the free trackers in turn, and the completions of different patterns, taken in index order,
are one change of the state. -/
theorem arrivalOfMany : Obligations.ArrivalOfMany := by
  intro s src v hpool j ends starts begins free claimed short completed
  refine ⟨fun p c h => State.judgeTrackers_holdoff_kept h, ?_⟩
  have trackers : ((s.begins src v).trackers.map fun slot => slot.filter fun u => !releasedBy src (s.completed src v) u) =
      Table.tabulate fun i => (if i ∈ free then claimed i else j.trackers.get i).filter fun u =>
        !releasedBy src (s.completed src v) u := by
    apply Table.ext_get
    intro i
    rw [Table.get_map, Table.get_tabulate]
    exact congrArg _ (Table.get_tabulate _ i)
  rw [State.arrival_value src v hpool, trackers, State.started_eq]
  rfl

end Sys2Proof.Machine
end
